-- ==== Sys2Proof/Word.lean ====
section
/-! DEFINITION. The byte, the 16-bit check register and the port number. -/

namespace Sys2Proof

/-- One byte of a message or of pool memory. Sequence numbers, acceptance numbers and marks are bytes
too: they wrap from 255 to 0 (R87, R156). -/
abbrev Byte := BitVec 8

/-- The 16-bit check register of R200. -/
abbrev Check := BitVec 16

/-- A port, 0 to 3 (00_scope.md, Names). -/
abbrev Port := Fin 4

/-- A region slot, 0 to 7 (00_scope.md, Names; R2). -/
abbrev Slot := Fin 8

end Sys2Proof
end

