-- ==== Sys2Proof/Config.lean ====
section
/-! DEFINITION. The sizes the spec fixes for the part, and the one free value. -/

namespace Sys2Proof.Config

/-- Frames the part addresses (R1). -/
def frameCount : Nat := 262144
/-- Bytes of a frame, and of a page (R1, R35). -/
def frameBytes : Nat := 65536
/-- Bytes of a line (R1). -/
def lineBytes : Nat := 32
/-- Lines of a frame (R1). -/
def frameLines : Nat := 2048
/-- Bytes of a block (R1). -/
def blockBytes : Nat := 256
/-- Lines of a block, the lines of one ZERO_LINES operation (R1, R118). -/
def blockLines : Nat := 8
/-- Blocks of a frame, the operations of one scrub (R1, 1.5). -/
def frameBlocks : Nat := 256
/-- Pages of an aperture (R36). -/
def pageCount : Nat := 4096
/-- Sizes of regions are multiples of this many frames (R3). -/
def regionUnit : Nat := 256
/-- The window of the Expedited class (R84). -/
def expeditedWindow : Nat := 4
/-- The window of the Ordinary class (R84). -/
def ordinaryWindow : Nat := 16
/-- The write lines of a port (R94). -/
def writeLines : Nat := 64
/-- The places of the offer table (R56). -/
def offerPlaces : Nat := 16
/-- The places of a refusal queue (R147). -/
def refusalPlaces : Nat := 8
/-- The places of a notice queue (R151). -/
def noticePlaces : Nat := 16
/-- The places of a replay buffer (R170). -/
def replayPlaces : Nat := 32
/-- The largest payload of a link frame (R163). -/
def maxPayload : Nat := 272

/-- The model's clock: ticks in one millisecond, so that a tick is one microsecond. The spec gives its
timers and limits in milliseconds and no resolution. DESIGN CHOICE (log entry 3). -/
def ticksPerMs : Nat := 1000

/-- FREE VALUE: what an undefined byte of the DRAM reads as, for each reading operation (first argument,
counted by State.freeIndex) and address. The contents of the DRAM are undefined until each frame has been
scrubbed (01, 1.12; R133), and so are the bytes of a line written with the marker that the write did not
name (R127, R128). Safe: nothing is known of it (log entry 1). -/
opaque undefinedByte : Nat → Nat → Byte

end Sys2Proof.Config
end

