-- ==== Sys2Proof/Syntax.lean ====
section
/-! DEFINITION. The commands of the block: one constructor of Instr per row of spec/opcode_table.json. -/

namespace Sys2Proof

/-- The request kinds a host sends (10.3, Kinds). -/
inductive RequestKind where
  | openSession | closeSession | setOrder
  | read | write | fence
  | alloc | release | offer | accept | decline | withdraw
  | queryPort | queryPage | queryPool | queryFrame
  | claimAdmin | handAdmin
  | defineRegion | undefineRegion | onlineRegion | retireRegion
  | setQuota | setWeight | setLimit
  | disablePort | enablePort | evictPort
  deriving DecidableEq, Repr

/-- A good link frame of a host that is no link-control frame, less its kind byte (10.1, 10.2): the sequence
byte, the flags byte, the mark, bytes 6 and 7 and the payload, as received. The payload length of bytes 4 and 5
is the payload's own length, because the frame passed the frame check (R163). -/
structure RequestFrame where
  seq : Byte
  flags : Byte
  mark : Byte
  byte6 : Byte
  byte7 : Byte
  payload : List Byte
  deriving DecidableEq, Repr

/-- What an operation that reads a line found anew in it (R127): nothing, an error that was corrected, one that cannot be,
or an error of more bits that passed unseen (06, 6.4), in which case the line reads as clean, with these bytes.
The DRAM reports it with the completion (log entry 8). -/
inductive LineReport where
  | clean
  | corrected
  | uncorrectable
  | unseen (bytes : List Byte)
  deriving DecidableEq, Repr

/-- The commands. The operands are the model's reading of the rules each row names, since the table gives none
(log entry 2). A request carries the port it arrives on and its frame. -/
inductive Instr where
  /-- DEVICE_RESET: RESET# goes low, power-on included (R199). -/
  | deviceReset
  /-- RESET_RELEASE: RESET# goes high with this value on ADMSEL[1:0] (R193). -/
  | resetRelease (admsel : Port)
  /-- RECEIVER_LOCK_GAINED (R158). -/
  | receiverLockGained (port : Port)
  /-- RECEIVER_LOCK_LOST (R158). -/
  | receiverLockLost (port : Port)
  /-- DAMAGED_FRAME: the bytes found between two frame boundaries, which fail the check (R163). -/
  | damagedFrame (port : Port) (bytes : List Byte)
  /-- LINK_HELLO with its seen flag (R159, R160, R162). -/
  | linkHello (port : Port) (seen : Bool)
  /-- LINK_ACK with its acknowledged sequence and hold flag (R170, R143). -/
  | linkAck (port : Port) (value : Byte) (hold : Bool)
  /-- LINK_NAK with its expected sequence (R171). -/
  | linkNak (port : Port) (value : Byte)
  /-- UNKNOWN_REQUEST_KIND: a sequenced frame whose kind byte is no request kind (R164, R202). -/
  | unknownRequestKind (port : Port) (kind : Byte) (frame : RequestFrame)
  /-- OPEN (R184). -/
  | openSession (port : Port) (frame : RequestFrame)
  /-- CLOSE (R185). -/
  | closeSession (port : Port) (frame : RequestFrame)
  /-- SET_ORDER (R95). -/
  | setOrder (port : Port) (frame : RequestFrame)
  /-- READ (R48). -/
  | read (port : Port) (frame : RequestFrame)
  /-- WRITE (R49). -/
  | write (port : Port) (frame : RequestFrame)
  /-- FENCE (R112). -/
  | fence (port : Port) (frame : RequestFrame)
  /-- ALLOC (R40). -/
  | alloc (port : Port) (frame : RequestFrame)
  /-- RELEASE (R43). -/
  | release (port : Port) (frame : RequestFrame)
  /-- OFFER (R60). -/
  | offer (port : Port) (frame : RequestFrame)
  /-- ACCEPT (R62). -/
  | accept (port : Port) (frame : RequestFrame)
  /-- DECLINE (R64). -/
  | decline (port : Port) (frame : RequestFrame)
  /-- WITHDRAW (R65). -/
  | withdraw (port : Port) (frame : RequestFrame)
  /-- QUERY_PORT (R197). -/
  | queryPort (port : Port) (frame : RequestFrame)
  /-- QUERY_PAGE (R52). -/
  | queryPage (port : Port) (frame : RequestFrame)
  /-- QUERY_POOL (R32). -/
  | queryPool (port : Port) (frame : RequestFrame)
  /-- QUERY_FRAME (R33). -/
  | queryFrame (port : Port) (frame : RequestFrame)
  /-- CLAIM_ADMIN (R194). -/
  | claimAdmin (port : Port) (frame : RequestFrame)
  /-- HAND_ADMIN (R195). -/
  | handAdmin (port : Port) (frame : RequestFrame)
  /-- DEFINE_REGION (R28). -/
  | defineRegion (port : Port) (frame : RequestFrame)
  /-- UNDEFINE_REGION (R29). -/
  | undefineRegion (port : Port) (frame : RequestFrame)
  /-- ONLINE_REGION (R30). -/
  | onlineRegion (port : Port) (frame : RequestFrame)
  /-- RETIRE_REGION (R31). -/
  | retireRegion (port : Port) (frame : RequestFrame)
  /-- SET_QUOTA (R39). -/
  | setQuota (port : Port) (frame : RequestFrame)
  /-- SET_WEIGHT (R126). -/
  | setWeight (port : Port) (frame : RequestFrame)
  /-- SET_LIMIT with selector OFFER_LIFE (R59, R196); also a SET_LIMIT whose selector is reserved (log entry 16). -/
  | setLimitOfferLife (port : Port) (frame : RequestFrame)
  /-- SET_LIMIT with selector HOLD_LIMIT (R145, R196). -/
  | setLimitHoldLimit (port : Port) (frame : RequestFrame)
  /-- SET_LIMIT with selector ERROR_LIMIT (R23, R196). -/
  | setLimitErrorLimit (port : Port) (frame : RequestFrame)
  /-- SET_LIMIT with selector REPLAY_TIMEOUT (R174, R196). -/
  | setLimitReplayTimeout (port : Port) (frame : RequestFrame)
  /-- DISABLE_PORT (R190). -/
  | disablePort (port : Port) (frame : RequestFrame)
  /-- ENABLE_PORT (R191). -/
  | enablePort (port : Port) (frame : RequestFrame)
  /-- EVICT_PORT (R192). -/
  | evictPort (port : Port) (frame : RequestFrame)
  /-- GRANT: the Memory Scheduler takes a grant (R123). -/
  | grant
  /-- READ_LINES_COMPLETION, with what was found in each line, first line first (R109, R127). -/
  | readLinesCompletion (reports : List LineReport)
  /-- WRITE_LINES_COMPLETION, with what was found in each line that had to be read first (R110, R128). -/
  | writeLinesCompletion (reports : List LineReport)
  /-- ZERO_LINES_COMPLETION (R13, R129). -/
  | zeroLinesCompletion
  /-- TRANSMIT_CHOICE: the port's transmitter can begin a new sequenced frame (R136, R137). -/
  | transmitChoice (port : Port)
  /-- RETRANSMIT: the port's transmitter is free during a retransmission (R175). -/
  | retransmit (port : Port)
  /-- SEND_LINK_HELLO: the port's transmitter is free with a LINK_HELLO pending (R169). -/
  | sendLinkHello (port : Port)
  /-- SEND_LINK_NAK: the port's transmitter is free with a LINK_NAK pending (R169). -/
  | sendLinkNak (port : Port)
  /-- SEND_LINK_ACK: the port's transmitter is free with a LINK_ACK pending (R168, R169). -/
  | sendLinkAck (port : Port)
  /-- HELLO_TIMER_EXPIRY (R159). -/
  | helloTimerExpiry (port : Port)
  /-- REPLAY_TIMER_EXPIRY (R173). -/
  | replayTimerExpiry (port : Port)
  /-- HOLD_TIMER_EXPIRY (R144). -/
  | holdTimerExpiry (port : Port)
  /-- OFFER_EXPIRY: the deadline of the offer of this number (R66). -/
  | offerExpiry (number : Byte)
  deriving DecidableEq, Repr

end Sys2Proof
end

