-- ==== Sys2Proof/Decode.lean ====
section
/-! DEFINITION. Bytes: multi-byte fields, the check of R200, the frame check of R163, the kinds of 10.3, the
command that received bytes spell and the bytes of a host's frame. The opcode table gives its rows no bits, so
decodeTableWord answers none. -/

namespace Sys2Proof

/-- `width` bytes of a number, least significant byte first (R200). -/
def leBytes : Nat → Nat → List Byte
  | 0, _ => []
  | width + 1, v => BitVec.ofNat 8 v :: leBytes width (v / 256)

/-- The unsigned number that bytes make, least significant byte first (R200). -/
def leValue : List Byte → Nat
  | [] => 0
  | b :: bs => b.toNat + 256 * leValue bs

/-- The value of the field of `size` bytes at `offset` (10, opening text). -/
def field (bytes : List Byte) (offset size : Nat) : Nat :=
  leValue ((bytes.drop offset).take size)

/-- One byte of a run of bytes; 0 beyond its end. -/
def byteAt (bytes : List Byte) (offset : Nat) : Byte :=
  bytes.getD offset 0

/-- One bit enters the check register (R200): shift towards the most significant end, and combine with the
generator 1021h if the bit shifted out differs from the data bit. -/
def checkBit (register : Check) (bit : Bool) : Check :=
  if register.msb == bit then register <<< 1 else (register <<< 1) ^^^ 0x1021#16

/-- One byte enters the check register, most significant bit first (R200). -/
def checkByte (register : Check) (b : Byte) : Check :=
  [b.getLsbD 7, b.getLsbD 6, b.getLsbD 5, b.getLsbD 4, b.getLsbD 3, b.getLsbD 2, b.getLsbD 1,
    b.getLsbD 0].foldl checkBit register

/-- The check of a header and payload (R200): the register starts at FFFFh and is not inverted at the end. -/
def checkOf (bytes : List Byte) : Check :=
  bytes.foldl checkByte 0xFFFF#16

/-- The bytes of a link frame: header, payload and check (10.1, 10.2). -/
def frameBytes (kind seq flags mark byte6 byte7 : Byte) (payload : List Byte) : List Byte :=
  let covered := [kind, seq, flags, mark] ++ leBytes 2 payload.length ++ [byte6, byte7] ++ payload
  covered ++ leBytes 2 (checkOf covered).toNat

/-! ### The kinds of 10.3 -/

/-- The code of each request kind (10.3, Kinds). -/
def RequestKind.code : RequestKind → Byte
  | .openSession => 0x10 | .closeSession => 0x11 | .setOrder => 0x12
  | .read => 0x20 | .write => 0x21 | .fence => 0x22
  | .alloc => 0x30 | .release => 0x31 | .offer => 0x32 | .accept => 0x33 | .decline => 0x34
  | .withdraw => 0x35
  | .queryPort => 0x40 | .queryPage => 0x41 | .queryPool => 0x42 | .queryFrame => 0x43
  | .claimAdmin => 0x50 | .handAdmin => 0x51 | .defineRegion => 0x52 | .undefineRegion => 0x53
  | .onlineRegion => 0x54 | .retireRegion => 0x55 | .setQuota => 0x56 | .setWeight => 0x57
  | .setLimit => 0x58 | .disablePort => 0x59 | .enablePort => 0x5A | .evictPort => 0x5B

/-- Every request kind. -/
def RequestKind.all : List RequestKind :=
  [.openSession, .closeSession, .setOrder, .read, .write, .fence, .alloc, .release, .offer, .accept,
    .decline, .withdraw, .queryPort, .queryPage, .queryPool, .queryFrame, .claimAdmin, .handAdmin,
    .defineRegion, .undefineRegion, .onlineRegion, .retireRegion, .setQuota, .setWeight, .setLimit,
    .disablePort, .enablePort, .evictPort]

/-- The request kind of a code, if a request uses it (10.3). -/
def RequestKind.ofCode (code : Byte) : Option RequestKind :=
  RequestKind.all.find? fun k => k.code == code

/-- The code of LINK_HELLO (10.3). -/
def helloCode : Byte := 0x01
/-- The code of LINK_ACK (10.3). -/
def ackCode : Byte := 0x02
/-- The code of LINK_NAK (10.3). -/
def nakCode : Byte := 0x03
/-- The code of REPLY (10.3). -/
def replyCode : Byte := 0x80
/-- The code of REFUSAL (10.3). -/
def refusalCode : Byte := 0x81
/-- The code of NOTICE (10.3). -/
def noticeCode : Byte := 0x82

/-- Flag bit 0 of the flags byte: class, 1 for Expedited (10.2). -/
def classFlag : Byte := 0x01
/-- Flag bit 1 of the flags byte: seen (10.2). -/
def seenFlag : Byte := 0x02
/-- Flag bit 2 of the flags byte: hold (10.2). -/
def holdFlag : Byte := 0x04

/-- A kind that the Link Unit handles itself (R163, R164). -/
def isLinkControl (kind : Byte) : Bool :=
  kind == helloCode || kind == ackCode || kind == nakCode

/-- The flags a frame of a link-control kind may have set (R163): seen on a LINK_HELLO, hold on a LINK_ACK. -/
def allowedFlags (kind : Byte) : Byte :=
  if kind == helloCode then seenFlag else if kind == ackCode then holdFlag else 0

/-- The frame check of R163 on the bytes found between two frame boundaries: true when they pass. -/
def frameCheck (bytes : List Byte) : Bool :=
  let payload := field bytes 4 2
  decide (10 ≤ bytes.length) && decide (payload ≤ Config.maxPayload) &&
    bytes.length == 10 + payload &&
    field bytes (8 + payload) 2 == (checkOf (bytes.take (8 + payload))).toNat &&
    (!isLinkControl (byteAt bytes 0) ||
      (payload == 0 && byteAt bytes 1 == 0 &&
        (byteAt bytes 2 &&& ~~~(allowedFlags (byteAt bytes 0))) == 0))

/-! ### Commands and frames -/

/-- The row of SET_LIMIT that a payload's selector names (10.3, limit selector; log entry 16). -/
def limitCommand (port : Port) (f : RequestFrame) : Instr :=
  match (byteAt f.payload 0).toNat with
  | 2 => .setLimitHoldLimit port f
  | 3 => .setLimitErrorLimit port f
  | 4 => .setLimitReplayTimeout port f
  | _ => .setLimitOfferLife port f

/-- The command of a request frame of a known kind. -/
def requestCommand (port : Port) (f : RequestFrame) : RequestKind → Instr
  | .openSession => .openSession port f | .closeSession => .closeSession port f
  | .setOrder => .setOrder port f | .read => .read port f | .write => .write port f
  | .fence => .fence port f | .alloc => .alloc port f | .release => .release port f
  | .offer => .offer port f | .accept => .accept port f | .decline => .decline port f
  | .withdraw => .withdraw port f | .queryPort => .queryPort port f | .queryPage => .queryPage port f
  | .queryPool => .queryPool port f | .queryFrame => .queryFrame port f
  | .claimAdmin => .claimAdmin port f | .handAdmin => .handAdmin port f
  | .defineRegion => .defineRegion port f | .undefineRegion => .undefineRegion port f
  | .onlineRegion => .onlineRegion port f | .retireRegion => .retireRegion port f
  | .setQuota => .setQuota port f | .setWeight => .setWeight port f
  | .setLimit => limitCommand port f
  | .disablePort => .disablePort port f | .enablePort => .enablePort port f
  | .evictPort => .evictPort port f

/-- The command that the bytes of one received frame spell (R163, R164, R201, R202): a frame that fails the
check is a DAMAGED_FRAME; a good one goes by its kind byte. -/
def commandOfWire (port : Port) (bytes : List Byte) : Instr :=
  if frameCheck bytes then
    let kind := byteAt bytes 0
    let flags := byteAt bytes 2
    if kind == helloCode then .linkHello port (flags &&& seenFlag == seenFlag)
    else if kind == ackCode then .linkAck port (byteAt bytes 6) (flags &&& holdFlag == holdFlag)
    else if kind == nakCode then .linkNak port (byteAt bytes 6)
    else
      let f : RequestFrame :=
        { seq := byteAt bytes 1, flags := flags, mark := byteAt bytes 3, byte6 := byteAt bytes 6,
          byte7 := byteAt bytes 7, payload := (bytes.drop 8).take (field bytes 4 2) }
      match RequestKind.ofCode kind with
      | some k => requestCommand port f k
      | none => .unknownRequestKind port kind f
  else .damagedFrame port bytes

/-- The kind byte, port and frame of a command that is a sequenced frame of a host. -/
def Instr.sequenced : Instr → Option (Port × Byte × RequestFrame)
  | .unknownRequestKind p k f => some (p, k, f)
  | .openSession p f => some (p, RequestKind.openSession.code, f)
  | .closeSession p f => some (p, RequestKind.closeSession.code, f)
  | .setOrder p f => some (p, RequestKind.setOrder.code, f)
  | .read p f => some (p, RequestKind.read.code, f)
  | .write p f => some (p, RequestKind.write.code, f)
  | .fence p f => some (p, RequestKind.fence.code, f)
  | .alloc p f => some (p, RequestKind.alloc.code, f)
  | .release p f => some (p, RequestKind.release.code, f)
  | .offer p f => some (p, RequestKind.offer.code, f)
  | .accept p f => some (p, RequestKind.accept.code, f)
  | .decline p f => some (p, RequestKind.decline.code, f)
  | .withdraw p f => some (p, RequestKind.withdraw.code, f)
  | .queryPort p f => some (p, RequestKind.queryPort.code, f)
  | .queryPage p f => some (p, RequestKind.queryPage.code, f)
  | .queryPool p f => some (p, RequestKind.queryPool.code, f)
  | .queryFrame p f => some (p, RequestKind.queryFrame.code, f)
  | .claimAdmin p f => some (p, RequestKind.claimAdmin.code, f)
  | .handAdmin p f => some (p, RequestKind.handAdmin.code, f)
  | .defineRegion p f => some (p, RequestKind.defineRegion.code, f)
  | .undefineRegion p f => some (p, RequestKind.undefineRegion.code, f)
  | .onlineRegion p f => some (p, RequestKind.onlineRegion.code, f)
  | .retireRegion p f => some (p, RequestKind.retireRegion.code, f)
  | .setQuota p f => some (p, RequestKind.setQuota.code, f)
  | .setWeight p f => some (p, RequestKind.setWeight.code, f)
  | .setLimitOfferLife p f => some (p, RequestKind.setLimit.code, f)
  | .setLimitHoldLimit p f => some (p, RequestKind.setLimit.code, f)
  | .setLimitErrorLimit p f => some (p, RequestKind.setLimit.code, f)
  | .setLimitReplayTimeout p f => some (p, RequestKind.setLimit.code, f)
  | .disablePort p f => some (p, RequestKind.disablePort.code, f)
  | .enablePort p f => some (p, RequestKind.enablePort.code, f)
  | .evictPort p f => some (p, RequestKind.evictPort.code, f)
  | .deviceReset | .resetRelease _ | .receiverLockGained _ | .receiverLockLost _ | .damagedFrame _ _
  | .linkHello _ _ | .linkAck _ _ _ | .linkNak _ _ | .grant | .readLinesCompletion _
  | .writeLinesCompletion _ | .zeroLinesCompletion | .transmitChoice _ | .retransmit _
  | .sendLinkHello _ | .sendLinkNak _ | .sendLinkAck _ | .helloTimerExpiry _
  | .replayTimerExpiry _ | .holdTimerExpiry _ | .offerExpiry _ => none

/-- The port and the bytes of a command that is a received frame, as the host sends them (10.1, 10.2): the
other direction of commandOfWire. Bytes that the Link Unit does not examine are 0 (R201). -/
def wireOfCommand (i : Instr) : Option (Port × List Byte) :=
  match i with
  | .damagedFrame p bytes => some (p, bytes)
  | .linkHello p seen => some (p, frameBytes helloCode 0 (if seen then seenFlag else 0) 0 0 0 [])
  | .linkAck p value hold =>
    some (p, frameBytes ackCode 0 (if hold then holdFlag else 0) 0 value 0 [])
  | .linkNak p value => some (p, frameBytes nakCode 0 0 0 value 0 [])
  | other =>
    match other.sequenced with
    | some (p, k, f) => some (p, frameBytes k f.seq f.flags f.mark f.byte6 f.byte7 f.payload)
    | none => none

/-- The command that a table word spells: the table gives no row any bits (98_reader.md, the reader's counts:
0 rows with fixed bits), so none. -/
def decodeTableWord (_nbits _w : Nat) : Option Instr := none

end Sys2Proof
end

