-- ==== Sys2Proof/Machine/State.lean ====
section
/-! DEFINITION. The state of the part as plain data: every register, queue, table and record the spec names, and
the queue of waiting commands. -/

namespace Sys2Proof.Machine

/-- Sparse data by number, in rising order of the numbers; what is not listed is absent. -/
abbrev Sparse (α : Type) := List (Nat × α)

/-- Pool memory: bytes by DRAM address (R1). An address that is not listed holds an undefined byte
(01, 1.12; log entry 1). -/
abbrev Memory := List Host.Cell

/-! ### Names of states, codes and kinds -/

/-- Link state (R156). -/
inductive LinkState where
  | offline | aligning | answering | up
  deriving DecidableEq, Repr

/-- Session state (R180). -/
inductive SessionState where
  | closed | opened | closing | teardown | disabled
  deriving DecidableEq, Repr

/-- Teardown cause (R180). -/
inductive TeardownCause where
  | closedByHost | linkLost | evicted | disabled
  deriving DecidableEq, Repr

/-- Session cause of a notice (10.3): a teardown cause, OPENED or ENABLED. -/
inductive SessionCause where
  | ended (cause : TeardownCause)
  | opened
  | enabled
  deriving DecidableEq, Repr

/-- Request class (R83). -/
inductive ReqClass where
  | expedited | ordinary
  deriving DecidableEq, Repr

/-- State of a class-queue entry (R89). -/
inductive EntryState where
  | waiting | presented | inMemory | done
  deriving DecidableEq, Repr

/-- Ordering mode (R95). -/
inductive OrderMode where
  | arrival | priority
  deriving DecidableEq, Repr

/-- Result code (10.3). -/
inductive ResultCode where
  | ok | faultUnmapped | faultRights | bounds | dataError | pageInUse | notMapped
  | quota | quotaInUse | noFrames | noOffer | offersFull | offerPending | alreadyMapped
  | self | rights | portClosed | notAdmin | adminHeld | regionState | badValue
  deriving DecidableEq, Repr

/-- Refusal reason (10.3, R79). -/
inductive RefusalReason where
  | notOpen | alreadyOpen | notReady | portDisabled | closing | classRefused | windowFull
  | dataFull | malformed
  deriving DecidableEq, Repr

/-- Mapping rights (R36). -/
inductive Rights where
  | ro | rw
  deriving DecidableEq, Repr

/-- Origin of a mapping (R36). -/
inductive Origin where
  | allocated | accepted
  deriving DecidableEq, Repr

/-- State of a pool frame (R5, R6). -/
inductive FrameState where
  | absent | scrubbing | free | held | parked | retired
  deriving DecidableEq, Repr

/-- State of a region slot (R2). -/
inductive RegionState where
  | empty | defined | online | draining | retired
  deriving DecidableEq, Repr

/-- Drain cause (R2). -/
inductive DrainCause where
  | admin | threshold
  deriving DecidableEq, Repr

/-- The administrator role record (R193). -/
inductive AdminRole where
  | reserved (port : Port)
  | held (port : Port)
  | vacant
  deriving DecidableEq, Repr

/-- Offer reason of a notice (10.3). -/
inductive OfferReason where
  | declined | targetGone | withdrawn | released | offererGone
  deriving DecidableEq, Repr

/-- A notice with the fields it was raised with (10.6, R205). -/
inductive Notice where
  | offerReceived (number : Byte) (offering : Port) (rights : Rights)
  | offerTaken (number : Byte) (targetPage : Nat)
  | offerDeclined (number : Byte) (reason : OfferReason)
  | offerWithdrawn (number : Byte) (reason : OfferReason)
  | offerExpired (number : Byte)
  | adminChanged (holder : Option Port)
  | regionState (slot : Slot) (state : RegionState) (cause : Option DrainCause)
  | framePoisoned (frame : Nat) (slot : Option Slot)
  | portState (port : Port) (state : SessionState) (cause : SessionCause)
  | holdOverdue
  | sessionEnded (cause : TeardownCause)
  deriving DecidableEq, Repr

/-! ### Links -/

/-- A link frame the P416 sends: its header fields and payload (10.2). Its payload length and check follow from
these (R200). -/
structure LinkFrame where
  kind : Byte
  seq : Byte
  flags : Byte
  mark : Byte
  byte6 : Byte
  byte7 : Byte
  payload : List Byte
  deriving DecidableEq, Repr

/-- What a Link Unit holds (R156). Timers hold a point in time of State.now, or none when stopped. -/
structure LinkUnit where
  state : LinkState
  helloTimer : Option Nat
  expected : Byte
  nakFlag : Bool
  pendingAck : Option Byte
  pendingNak : Option Byte
  helloPending : Bool
  nextOut : Byte
  replay : List LinkFrame
  retransmit : Option Byte
  replayTimer : Option Nat
  timeouts : Nat
  checkErrors : Nat
  deriving DecidableEq, Repr

/-- What a Port Controller holds (R180). -/
structure PortController where
  state : SessionState
  cause : Option TeardownCause
  disablePending : Bool
  deriving DecidableEq, Repr

/-! ### Requests -/

/-- The translation of a READ or WRITE (R47, R49, R89). -/
structure Translation where
  frame : Nat
  firstLine : Nat
  lineCount : Nat
  firstByte : Nat
  length : Nat
  deriving DecidableEq, Repr

/-- The report of QUERY_PORT (R197; 10.5). -/
structure PortReport where
  port : Port
  session : SessionState
  cause : Option TeardownCause
  disablePending : Bool
  role : AdminRole
  link : LinkState
  checkErrors : Nat
  quota : Nat
  mapped : Nat
  expeditedEntries : Nat
  ordinaryEntries : Nat
  freeLines : Nat
  mode : OrderMode
  burstLimit : Nat
  offersMade : Nat
  offersReceived : Nat
  lifetime : Nat
  holdLimit : Nat
  replayTimeout : Nat
  deriving DecidableEq, Repr

/-- One frame record of the Pool Manager (R5). Its region slot is the view State.regionSlot (log entry 10). -/
structure FrameRecord where
  state : FrameState
  holders : Nat
  pins : Nat
  originator : Option Port
  poisoned : Bool
  deriving DecidableEq, Repr

/-- A mapping record of an aperture table (R36). -/
structure Mapping where
  frame : Nat
  rights : Rights
  origin : Origin
  deriving DecidableEq, Repr

/-- The report of QUERY_PAGE (R53; 10.5); the mapping and its frame's record for a MAPPED slot. -/
structure PageReport where
  port : Port
  page : Nat
  mapped : Nat
  quota : Nat
  mapping : Option (Mapping × FrameRecord)
  deriving DecidableEq, Repr

/-- A region record of QUERY_POOL (R32; 10.5). -/
structure RegionReport where
  slot : Slot
  state : RegionState
  start : Nat
  stop : Nat
  uncorrectable : Nat
  corrected : Nat
  retired : Nat
  cause : Option DrainCause
  deriving DecidableEq, Repr

/-- The report of QUERY_POOL (R32; 10.5). -/
structure PoolReport where
  freeLength : Nat
  scrubLength : Nat
  head : Option Nat
  done : Nat
  threshold : Nat
  regions : List RegionReport
  deriving DecidableEq, Repr

/-- The report of QUERY_FRAME (R33; 10.5). -/
structure FrameReport where
  frame : Nat
  record : FrameRecord
  slot : Option Slot
  scrubDone : Option Nat
  deriving DecidableEq, Repr

/-- The limits of SET_LIMIT (R196). -/
inductive Limit where
  | offerLife | holdLimit | errorLimit | replayTimeout
  deriving DecidableEq, Repr

/-- The payload an OK reply carries, recorded at acceptance (R140; 10.5). -/
inductive ReplyPayload where
  | opened (port : Port) (admin : Bool) (quota mapped : Nat)
  | order (mode : OrderMode) (limit : Nat)
  | allocated (page count : Nat) (frames : List Nat)
  | released (page count : Nat)
  | offered (number : Byte) (page : Nat) (target : Port) (rights : Rights) (lifetime : Nat)
  | accepted (number : Byte) (page frame : Nat) (rights : Rights)
  | offerNumber (number : Byte)
  | holder (port : Port)
  | defined (slot : Slot) (start stop : Nat)
  | slot (slot : Slot)
  | slotState (slot : Slot) (state : RegionState)
  | quotaSet (port : Port) (quota mapped : Nat)
  | weightSet (participant weight replaced : Nat)
  | limitSet (limit : Limit) (value replaced : Nat)
  | portState (port : Port) (state : SessionState)
  | portReport (report : PortReport)
  | pageReport (report : PageReport)
  | poolReport (report : PoolReport)
  | frameReport (report : FrameReport)
  deriving DecidableEq, Repr

/-- A class-queue entry (R89). -/
structure Entry where
  kind : RequestKind
  cls : ReqClass
  number : Byte
  mark : Byte
  state : EntryState
  result : Option ResultCode
  translation : Option Translation
  writeData : Option (List Byte)
  readData : Option (List Byte)
  payload : Option ReplyPayload
  deriving DecidableEq, Repr

/-- What a Request Unit holds (R77). Both class queues are one list in the port's acceptance order, oldest first;
the queue of a class is the entries of that class, and the order across the classes is the list's (R90, R99;
log entry 9). The presented entry is the one in state PRESENTED (log entry 10). -/
structure RequestUnit where
  entries : List Entry
  nextExpedited : Byte
  nextOrdinary : Byte
  reservedLines : Nat
  mode : OrderMode
  burstLimit : Nat
  deriving DecidableEq, Repr

/-- A refusal waiting to leave (R147). -/
structure RefusalRecord where
  reason : RefusalReason
  seq : Byte
  mark : Byte
  cls : ReqClass
  deriving DecidableEq, Repr

/-- What a Transmit Unit holds (R135). -/
structure TransmitUnit where
  refusals : List RefusalRecord
  notices : List Notice
  lost : Nat
  hold : Bool
  holdTimer : Option Nat
  overdueSent : Bool
  burst : Nat
  deriving DecidableEq, Repr

/-- One aperture table with its quota (R36, R38); the mapped count is the number of listed slots (R37). -/
structure Aperture where
  slots : Sparse Mapping
  quota : Nat
  deriving DecidableEq, Repr

/-- The state that exists once per port, and the frames put on the port's transmit pair since device reset,
oldest first (the model's record of an output pin; log entry 12). -/
structure PortState where
  link : LinkUnit
  session : PortController
  requests : RequestUnit
  transmit : TransmitUnit
  aperture : Aperture
  sent : List LinkFrame
  deriving DecidableEq, Repr

/-! ### Pool, sharing, memory channel -/

/-- One region slot (R2); `stop` is the end field. -/
structure Region where
  state : RegionState
  stop : Option Nat
  uncorrectable : Nat
  corrected : Nat
  retired : Nat
  cause : Option DrainCause
  deriving DecidableEq, Repr

/-- The Scrubber's operation state with the frame and block of the operation (R11). -/
inductive ScrubOp where
  | idle
  | presented (frame block : Nat)
  | inMemory (frame block : Nat)
  deriving DecidableEq, Repr

/-- The scrub position (R11). -/
structure ScrubPosition where
  head : Option Nat
  done : Nat
  op : ScrubOp
  deriving DecidableEq, Repr

/-- What the Pool Manager and the Scrubber hold (R2, R5, R8, R9, R11, R23). A frame that is not listed has the
ABSENT record. -/
structure PoolManager where
  regions : Vector Region 8
  frames : Sparse FrameRecord
  freeList : List Nat
  scrubQueue : List Nat
  scrub : ScrubPosition
  errorThreshold : Nat
  deriving DecidableEq, Repr

/-- A record of the offer table (R56). -/
structure Offer where
  number : Byte
  offering : Port
  page : Nat
  frame : Nat
  target : Port
  rights : Rights
  deadline : Nat
  deriving DecidableEq, Repr

/-- What the Share Unit holds (R56, R58, R59). -/
structure ShareUnit where
  offers : List Offer
  nextNumber : Byte
  lifetime : Nat
  deriving DecidableEq, Repr

/-- A participant of the Memory Scheduler (R120). -/
inductive Participant where
  | port (port : Port)
  | scrubber
  deriving DecidableEq, Repr

/-- A type of memory operation (R118). -/
inductive OpKind where
  | readLines | writeLines | zeroLines
  deriving DecidableEq, Repr

/-- A memory operation (R118). A WRITE_LINES operation refers to the bytes in its entry's write lines. -/
structure Operation where
  participant : Participant
  kind : OpKind
  frame : Nat
  firstLine : Nat
  lineCount : Nat
  deriving DecidableEq, Repr

/-- What the Memory Scheduler holds (R122); the channel state is BUSY exactly when an operation is in flight
(R119; log entry 10). Weights are numbered 0 to 3 for the ports and 4 for the Scrubber (R126). -/
structure Scheduler where
  weights : Vector Nat 5
  holder : Participant
  turnLines : Nat
  deriving DecidableEq, Repr

/-- What a line whose check bits do not match it is known to hold: an error that the check corrects, an error that it
detects and cannot correct (R127), or the marker (R128). -/
inductive LineFlaw where
  | correctable | uncorrectable | marker
  deriving DecidableEq, Repr

/-- The attached DRAM: its bytes, the flaws of its lines (R127, R128; log entry 27) and the spans of lines (first, end)
for which DRAM is fitted (R127). Lines are numbered through the whole DRAM. -/
structure Dram where
  bytes : Memory
  flaws : Sparse LineFlaw
  fitted : List (Nat × Nat)
  deriving DecidableEq, Repr

/-- The state of the part. -/
structure State where
  ports : Vector PortState 4
  pool : PoolManager
  share : ShareUnit
  scheduler : Scheduler
  inFlight : Option Operation
  dram : Dram
  role : AdminRole
  holdLimit : Nat
  replayTimeout : Nat
  /-- RESET# is low (log entry 6). -/
  resetLow : Bool
  /-- The time in ticks (log entry 3). -/
  now : Nat
  /-- Picks the next free value (log entry 1). -/
  freeIndex : Nat
  /-- The commands waiting, first in first out (log entry 24). -/
  pending : List Instr
  deriving DecidableEq, Repr

/-- Faults: none. The part goes on after every event, and the spec names no access that stops it, so no command
raises a fault. -/
inductive Fault where
  deriving DecidableEq, Repr

/-- Refusals. -/
inductive Refusal where
  /-- Raised by an arm of exec for a command that has no meaning yet; no arm raises it now. Safe. -/
  | notModelled (mnemonic : String)
  deriving DecidableEq, Repr

/-! ### The machine right after reset -/

/-- A Link Unit after device reset (R156). -/
def LinkUnit.reset : LinkUnit :=
  { state := .offline, helloTimer := none, expected := 0, nakFlag := false, pendingAck := none,
    pendingNak := none, helloPending := false, nextOut := 0, replay := [], retransmit := none,
    replayTimer := none, timeouts := 0, checkErrors := 0 }

/-- A Port Controller after device reset (R180). -/
def PortController.reset : PortController :=
  { state := .closed, cause := none, disablePending := false }

/-- A Request Unit after device reset (R77). -/
def RequestUnit.reset : RequestUnit :=
  { entries := [], nextExpedited := 0, nextOrdinary := 0, reservedLines := 0, mode := .priority,
    burstLimit := 4 }

/-- A Transmit Unit after device reset (R135). -/
def TransmitUnit.reset : TransmitUnit :=
  { refusals := [], notices := [], lost := 0, hold := false, holdTimer := none,
    overdueSent := false, burst := 0 }

/-- An aperture table after device reset (R36, R38). -/
def Aperture.reset : Aperture :=
  { slots := [], quota := 1024 }

/-- A port after device reset. -/
def PortState.reset : PortState :=
  { link := .reset, session := .reset, requests := .reset, transmit := .reset, aperture := .reset,
    sent := [] }

/-- An EMPTY region slot (R2). -/
def Region.emptySlot : Region :=
  { state := .empty, stop := none, uncorrectable := 0, corrected := 0, retired := 0, cause := none }

/-- The record of an ABSENT frame (R5). -/
def FrameRecord.absentRecord : FrameRecord :=
  { state := .absent, holders := 0, pins := 0, originator := none, poisoned := false }

/-- The Pool Manager after device reset (01, 1.12). -/
def PoolManager.reset : PoolManager :=
  { regions := Vector.replicate 8 .emptySlot, frames := [], freeList := [], scrubQueue := [],
    scrub := { head := none, done := 0, op := .idle }, errorThreshold := 16 }

/-- The Share Unit after device reset (R76). -/
def ShareUnit.reset : ShareUnit :=
  { offers := [], nextNumber := 1, lifetime := 100 }

/-- The Memory Scheduler after device reset (R122). -/
def Scheduler.reset : Scheduler :=
  { weights := Vector.replicate 5 8, holder := .port 0, turnLines := 0 }

/-- The DRAM of the model at reset: contents undefined (01, 1.12), no line known to hold a flaw (log entry 21), and
DRAM fitted for every line the part addresses (DESIGN CHOICE, log entry 7). -/
def Dram.reset : Dram :=
  { bytes := [], flaws := [], fitted := [(0, Config.frameCount * Config.frameLines)] }

/-- The machine right after a device reset: RESET# has been released with 0 on ADMSEL[1:0] (log entry 6), every
block holds its reset values, time 0 (log entry 3), and no command waits. -/
def State.reset : State :=
  { ports := Vector.replicate 4 .reset, pool := .reset, share := .reset, scheduler := .reset,
    inFlight := none, dram := .reset, role := .reserved 0, holdLimit := 500, replayTimeout := 4,
    resetLow := false, now := 0, freeIndex := 0, pending := [] }

end Sys2Proof.Machine
end

