-- ==== Sys2Proof/Machine/Flags.lean ====
section
/-! DEFINITION. The flags byte of 10.2 and the codes of 10.3. -/

namespace Sys2Proof.Machine

/-- The class a request's flags byte carries: bit 0, 1 for Expedited (10.2). -/
def classOf (flags : Byte) : ReqClass :=
  if flags &&& classFlag == classFlag then .expedited else .ordinary

/-- The flags byte of a REPLY or REFUSAL: the class flag alone (R201). -/
def ReqClass.flags : ReqClass → Byte
  | .expedited => classFlag
  | .ordinary => 0

/-- The flags byte of a LINK_HELLO the P416 sends: seen in ANSWERING, clear otherwise (R201). -/
def helloFlags : LinkState → Byte
  | .answering => seenFlag
  | .offline | .aligning | .up => 0

/-- A request's flags byte has no bit set but the class bit (R202). -/
def onlyClassFlag (flags : Byte) : Bool :=
  flags &&& ~~~classFlag == 0

/-- In session: OPEN or CLOSING (R180). -/
def SessionState.inSession : SessionState → Bool
  | .opened | .closing => true
  | .closed | .teardown | .disabled => false

/-! ### Codes (10.3) -/

/-- Result codes (10.3). -/
def ResultCode.code : ResultCode → Byte
  | .ok => 0x00 | .faultUnmapped => 0x01 | .faultRights => 0x02 | .bounds => 0x03
  | .dataError => 0x04 | .pageInUse => 0x05 | .notMapped => 0x06 | .quota => 0x07
  | .quotaInUse => 0x08 | .noFrames => 0x09 | .noOffer => 0x0A | .offersFull => 0x0B
  | .offerPending => 0x0C | .alreadyMapped => 0x0D | .self => 0x0E | .rights => 0x0F
  | .portClosed => 0x10 | .notAdmin => 0x11 | .adminHeld => 0x12 | .regionState => 0x13
  | .badValue => 0x14

/-- Refusal reasons (10.3). -/
def RefusalReason.code : RefusalReason → Byte
  | .notOpen => 0x01 | .alreadyOpen => 0x02 | .notReady => 0x03 | .portDisabled => 0x04
  | .closing => 0x05 | .classRefused => 0x06 | .windowFull => 0x07 | .dataFull => 0x08
  | .malformed => 0x09

/-- Session state (10.3). -/
def SessionState.code : SessionState → Nat
  | .closed => 0 | .opened => 1 | .closing => 2 | .teardown => 3 | .disabled => 4

/-- Link state (10.3). -/
def LinkState.code : LinkState → Nat
  | .offline => 0 | .aligning => 1 | .answering => 2 | .up => 3

/-- Region state (10.3). -/
def RegionState.code : RegionState → Nat
  | .empty => 0 | .defined => 1 | .online => 2 | .draining => 3 | .retired => 4

/-- Frame state (10.3). -/
def FrameState.code : FrameState → Nat
  | .absent => 0 | .scrubbing => 1 | .free => 2 | .held => 3 | .parked => 4 | .retired => 5

/-- Rights (10.3). -/
def Rights.code : Rights → Nat
  | .ro => 0 | .rw => 1

/-- Origin (10.3). -/
def Origin.code : Origin → Nat
  | .allocated => 0 | .accepted => 1

/-- Ordering mode (10.3). -/
def OrderMode.code : OrderMode → Nat
  | .arrival => 0 | .priority => 1

/-- Role state (10.3). -/
def AdminRole.code : AdminRole → Nat
  | .vacant => 0 | .reserved _ => 1 | .held _ => 2

/-- Drain cause, 0 for none (10.3). -/
def drainCauseCode : Option DrainCause → Nat
  | none => 0 | some .admin => 1 | some .threshold => 2

/-- Teardown cause as a session cause (10.3). -/
def TeardownCause.code : TeardownCause → Nat
  | .closedByHost => 1 | .linkLost => 2 | .evicted => 3 | .disabled => 4

/-- Session cause (10.3). -/
def SessionCause.code : SessionCause → Nat
  | .ended c => c.code | .opened => 5 | .enabled => 6

/-- Offer reason (10.3). -/
def OfferReason.code : OfferReason → Nat
  | .declined => 1 | .targetGone => 2 | .withdrawn => 3 | .released => 4 | .offererGone => 5

/-- Limit selector (10.3). -/
def Limit.code : Limit → Nat
  | .offerLife => 1 | .holdLimit => 2 | .errorLimit => 3 | .replayTimeout => 4

/-- A flag field: 0 no, 1 yes (10.3). -/
def boolCode (b : Bool) : Nat :=
  if b then 1 else 0

/-- A port or holder field: FFh for no port (10.3). -/
def portCode : Option Port → Nat
  | some p => p.val
  | none => 0xFF

/-- A region slot field: FFh for none (R204). -/
def slotCode : Option Slot → Nat
  | some k => k.val
  | none => 0xFF

/-- A frame field: FFFFFFFFh for no frame (10.3). -/
def frameCode : Option Nat → Nat
  | some f => f
  | none => 0xFFFFFFFF

end Sys2Proof.Machine
end

