-- ==== Sys2Proof/Machine/Operands.lean ====
section
/-! DEFINITION. Operands: the fields of a request's payload (10.4), the conditions of check 1 (R202, R203), the
address arithmetic of READ and WRITE (R35, R47), and the bytes of reply and notice payloads (10.5, 10.6). -/

namespace Sys2Proof.Machine

/-! ### Fields of a request (10.4) -/

/-- The port a number names (R39 and the other checks "the port number must be 0-3"). -/
def portOf (n : Nat) : Option Port :=
  if h : n < 4 then some ⟨n, h⟩ else none

/-- The region slot a number names (R29). -/
def slotOf (n : Nat) : Option Slot :=
  if h : n < 8 then some ⟨n, h⟩ else none

/-- The rights a number names (10.3). -/
def rightsOf (n : Nat) : Option Rights :=
  if n = 0 then some .ro else if n = 1 then some .rw else none

/-- The ordering mode a number names (10.3). -/
def modeOf (n : Nat) : Option OrderMode :=
  if n = 0 then some .arrival else if n = 1 then some .priority else none

/-- READ and WRITE: the aperture address field (10.4). -/
def dataAddress (payload : List Byte) : Nat := field payload 0 4
/-- READ and WRITE: the length field (10.4). -/
def dataLength (payload : List Byte) : Nat := field payload 4 2
/-- ALLOC and RELEASE: the first page (10.4). -/
def firstPage (payload : List Byte) : Nat := field payload 0 2
/-- ALLOC and RELEASE: the count (10.4). -/
def pageTotal (payload : List Byte) : Nat := field payload 2 1

/-- The page of an aperture address (R35). -/
def pageOf (address : Nat) : Nat := address / Config.frameBytes
/-- The offset of an aperture address (R35). -/
def offsetOf (address : Nat) : Nat := address % Config.frameBytes

/-- The payload length a kind requires (10.4, R202); a WRITE's is 6 plus its own length field. -/
def requiredLength (kind : RequestKind) (payload : List Byte) : Nat :=
  match kind with
  | .openSession | .closeSession | .fence | .queryPool | .claimAdmin => 0
  | .setOrder => 2
  | .read => 6
  | .write => 6 + dataLength payload
  | .alloc | .release => 3
  | .offer => 4
  | .accept => 3
  | .decline | .withdraw => 1
  | .queryPort => 1
  | .queryPage => 5
  | .queryFrame => 4
  | .handAdmin | .disablePort | .enablePort | .evictPort => 1
  | .defineRegion => 4
  | .undefineRegion | .onlineRegion | .retireRegion => 1
  | .setQuota => 3
  | .setWeight => 2
  | .setLimit => 3

/-- Any of bits 28 to 31 of an address field is set (R35, R203). -/
def addressReserved (address : Nat) : Bool :=
  decide (2 ^ 28 ≤ address)

/-- The payload of a kind holds a reserved value (R203). -/
def reservedValue (kind : RequestKind) (payload : List Byte) : Bool :=
  match kind with
  | .read | .write =>
    addressReserved (dataAddress payload) || dataLength payload == 0 ||
      decide (256 < dataLength payload)
  | .queryPage => addressReserved (field payload 1 4)
  | .alloc | .release => pageTotal payload == 0 || decide (64 < pageTotal payload)
  | .offer => (rightsOf (field payload 3 1)).isNone
  | .setOrder => (modeOf (field payload 0 1)).isNone
  | .setLimit => field payload 0 1 == 0 || decide (4 < field payload 0 1)
  | .openSession | .closeSession | .fence | .accept | .decline | .withdraw | .queryPort
  | .queryPool | .queryFrame | .claimAdmin | .handAdmin | .defineRegion | .undefineRegion
  | .onlineRegion | .retireRegion | .setQuota | .setWeight | .disablePort | .enablePort
  | .evictPort => false

/-- Check 1 on a frame of a known kind: flags, bytes 6 and 7, length and reserved values (R80, R202, R203). -/
def wellFormedRequest (kind : RequestKind) (f : RequestFrame) : Bool :=
  onlyClassFlag f.flags && f.byte6 == 0 && f.byte7 == 0 &&
    f.payload.length == requiredLength kind f.payload && !reservedValue kind f.payload

/-- The kinds that may travel in either class (R83). -/
def eitherClass : RequestKind → Bool
  | .read | .write | .fence | .queryPort | .queryPage | .queryPool | .queryFrame => true
  | .openSession | .closeSession | .setOrder | .alloc | .release | .offer | .accept | .decline
  | .withdraw | .claimAdmin | .handAdmin | .defineRegion | .undefineRegion | .onlineRegion
  | .retireRegion | .setQuota | .setWeight | .setLimit | .disablePort | .enablePort
  | .evictPort => false

/-! ### Address arithmetic of READ and WRITE (R47) -/

/-- The first line of a request (R47). -/
def firstLineOf (offset : Nat) : Nat := offset / Config.lineBytes
/-- The line count of a request (R47). -/
def lineCountOf (offset length : Nat) : Nat :=
  (offset + length - 1) / Config.lineBytes - offset / Config.lineBytes + 1
/-- The request lies within one block (R47). -/
def withinBlock (offset length : Nat) : Bool :=
  offset / Config.blockBytes == (offset + length - 1) / Config.blockBytes

/-! ### Reply payloads (10.5, R204) -/

/-- One region record of a QUERY_POOL reply, 18 bytes (10.5). -/
def RegionReport.bytes (r : RegionReport) : List Byte :=
  leBytes 1 r.slot.val ++ leBytes 1 r.state.code ++ leBytes 4 r.start ++ leBytes 4 r.stop ++
    leBytes 1 r.uncorrectable ++ leBytes 2 r.corrected ++ leBytes 4 r.retired ++
    leBytes 1 (drainCauseCode r.cause)

/-- The QUERY_PORT record, 25 bytes (10.5). -/
def PortReport.bytes (r : PortReport) : List Byte :=
  leBytes 1 r.port.val ++ leBytes 1 r.session.code ++
    leBytes 1 (match r.cause with | some c => c.code | none => 0) ++
    leBytes 1 (boolCode r.disablePending) ++ leBytes 1 r.role.code ++
    leBytes 1 (match r.role with | .reserved p => p.val | .held p => p.val | .vacant => 0xFF) ++
    leBytes 1 r.link.code ++ leBytes 2 r.checkErrors ++ leBytes 2 r.quota ++ leBytes 2 r.mapped ++
    leBytes 1 r.expeditedEntries ++ leBytes 1 r.ordinaryEntries ++ leBytes 1 r.freeLines ++
    leBytes 1 r.mode.code ++ leBytes 1 r.burstLimit ++ leBytes 1 r.offersMade ++
    leBytes 1 r.offersReceived ++ leBytes 2 r.lifetime ++ leBytes 2 r.holdLimit ++
    leBytes 1 r.replayTimeout

/-- The QUERY_PAGE record, 8 bytes for an EMPTY slot and 19 for a MAPPED one (10.5). -/
def PageReport.bytes (r : PageReport) : List Byte :=
  leBytes 1 r.port.val ++ leBytes 2 r.page ++ leBytes 1 (boolCode r.mapping.isSome) ++
    leBytes 2 r.mapped ++ leBytes 2 r.quota ++
    match r.mapping with
    | none => []
    | some (m, record) =>
      leBytes 4 m.frame ++ leBytes 1 m.rights.code ++ leBytes 1 m.origin.code ++
        leBytes 1 record.state.code ++ leBytes 1 record.holders ++ leBytes 1 record.pins ++
        leBytes 1 (portCode record.originator) ++ leBytes 1 (boolCode record.poisoned)

/-- The QUERY_POOL record, 15 bytes and 18 for each region (10.5). -/
def PoolReport.bytes (r : PoolReport) : List Byte :=
  leBytes 4 r.freeLength ++ leBytes 4 r.scrubLength ++ leBytes 4 (frameCode r.head) ++
    leBytes 1 r.done ++ leBytes 1 r.threshold ++ leBytes 1 r.regions.length ++
    r.regions.flatMap RegionReport.bytes

/-- The QUERY_FRAME record, 12 bytes (10.5). -/
def FrameReport.bytes (r : FrameReport) : List Byte :=
  leBytes 4 r.frame ++ leBytes 1 r.record.state.code ++ leBytes 1 (slotCode r.slot) ++
    leBytes 1 r.record.holders ++ leBytes 1 r.record.pins ++
    leBytes 1 (portCode r.record.originator) ++ leBytes 1 (boolCode r.record.poisoned) ++
    leBytes 2 (match r.scrubDone with | some d => d | none => 0xFFFF)

/-- The bytes of a recorded reply payload (10.5). -/
def ReplyPayload.bytes : ReplyPayload → List Byte
  | .opened p admin quota mapped =>
    leBytes 1 p.val ++ leBytes 1 (boolCode admin) ++ leBytes 2 quota ++ leBytes 2 mapped ++
      leBytes 1 Config.expeditedWindow ++ leBytes 1 Config.ordinaryWindow ++
      leBytes 1 Config.writeLines
  | .order mode limit => leBytes 1 mode.code ++ leBytes 1 limit
  | .allocated page count frames =>
    leBytes 2 page ++ leBytes 1 count ++ frames.flatMap (leBytes 4)
  | .released page count => leBytes 2 page ++ leBytes 1 count
  | .offered n page target rights life =>
    [n] ++ leBytes 2 page ++ leBytes 1 target.val ++ leBytes 1 rights.code ++ leBytes 2 life
  | .accepted n page frame rights =>
    [n] ++ leBytes 2 page ++ leBytes 4 frame ++ leBytes 1 rights.code
  | .offerNumber n => [n]
  | .holder p => leBytes 1 p.val
  | .defined k start stop => leBytes 1 k.val ++ leBytes 4 start ++ leBytes 4 stop
  | .slot k => leBytes 1 k.val
  | .slotState k state => leBytes 1 k.val ++ leBytes 1 state.code
  | .quotaSet p quota mapped => leBytes 1 p.val ++ leBytes 2 quota ++ leBytes 2 mapped
  | .weightSet participant weight replaced =>
    leBytes 1 participant ++ leBytes 1 weight ++ leBytes 1 replaced
  | .limitSet limit value replaced =>
    leBytes 1 limit.code ++ leBytes 2 value ++ leBytes 2 replaced
  | .portState p state => leBytes 1 p.val ++ leBytes 1 state.code
  | .portReport r => r.bytes
  | .pageReport r => r.bytes
  | .poolReport r => r.bytes
  | .frameReport r => r.bytes

/-! ### Notices (10.3, 10.6) -/

/-- Notice types (10.3). -/
def Notice.code : Notice → Byte
  | .offerReceived _ _ _ => 0x01 | .offerTaken _ _ => 0x02 | .offerDeclined _ _ => 0x03
  | .offerWithdrawn _ _ => 0x04 | .offerExpired _ => 0x05 | .adminChanged _ => 0x06
  | .regionState _ _ _ => 0x07 | .framePoisoned _ _ => 0x08 | .portState _ _ _ => 0x09
  | .holdOverdue => 0x0A | .sessionEnded _ => 0x0B

/-- The payload of a notice (10.6). -/
def Notice.bytes : Notice → List Byte
  | .offerReceived n p r => [n] ++ leBytes 1 p.val ++ leBytes 1 r.code
  | .offerTaken n page => [n] ++ leBytes 2 page
  | .offerDeclined n reason => [n] ++ leBytes 1 reason.code
  | .offerWithdrawn n reason => [n] ++ leBytes 1 reason.code
  | .offerExpired n => [n]
  | .adminChanged holder => leBytes 1 (portCode holder)
  | .regionState k state cause =>
    leBytes 1 k.val ++ leBytes 1 state.code ++ leBytes 1 (drainCauseCode cause)
  | .framePoisoned frame k => leBytes 4 frame ++ leBytes 1 (slotCode k)
  | .portState p state cause =>
    leBytes 1 p.val ++ leBytes 1 state.code ++ leBytes 1 cause.code
  | .holdOverdue => []
  | .sessionEnded cause => leBytes 1 cause.code

/-- The bytes of a frame the P416 sends (R200, R201). -/
def LinkFrame.bytes (f : LinkFrame) : List Byte :=
  frameBytes f.kind f.seq f.flags f.mark f.byte6 f.byte7 f.payload

end Sys2Proof.Machine
end

