-- ==== Sys2Proof/Machine/Ops.lean ====
section
/-! DEFINITION. The named operations over the state that every block uses: sparse data, the accessors of the
per-port units, the clock, the notices, and the answer of an event while RESET# is low. -/

namespace Sys2Proof.Machine

/-- What a command answers. -/
abbrev Answered := Host.Outcome State Fault Refusal

/-! ### Sparse data -/

/-- The value listed for a number. -/
def Sparse.get {α : Type} : Sparse α → Nat → Option α
  | [], _ => none
  | (j, x) :: rest, k => if j = k then some x else Sparse.get rest k

/-- The entry of a number with a value, and no entry for none. -/
def Sparse.entry {α : Type} (k : Nat) : Option α → Sparse α
  | some x => [(k, x)]
  | none => []

/-- Lists a value for a number, or lists the number no more; the order of the numbers is kept. -/
def Sparse.set {α : Type} : Sparse α → Nat → Option α → Sparse α
  | [], k, v => Sparse.entry k v
  | (j, x) :: rest, k, v =>
    if k < j then Sparse.entry k v ++ (j, x) :: rest
    else if k = j then Sparse.entry k v ++ rest
    else (j, x) :: Sparse.set rest k v

/-- The numbers rise strictly. -/
def Sparse.rising {α : Type} : Sparse α → Bool
  | [] => true
  | [_] => true
  | (j, _) :: (k, y) :: rest => decide (j < k) && Sparse.rising ((k, y) :: rest)

/-- The canonical form of memory: addresses strictly rising; an unlisted byte is undefined, so no entry equals what
an unlisted address holds. -/
def Memory.wf (m : Memory) : Bool :=
  Sparse.rising m

/-! ### Ports -/

/-- The state of one port. -/
def State.port (s : State) (p : Port) : PortState :=
  s.ports[p]

/-- Changes the state of one port. -/
def State.modPort (s : State) (p : Port) (f : PortState → PortState) : State :=
  { s with ports := s.ports.set p (f s.ports[p]) }

/-- Changes the Link Unit of one port. -/
def State.modLink (s : State) (p : Port) (f : LinkUnit → LinkUnit) : State :=
  s.modPort p fun q => { q with link := f q.link }

/-- Changes the Port Controller of one port. -/
def State.modSession (s : State) (p : Port) (f : PortController → PortController) : State :=
  s.modPort p fun q => { q with session := f q.session }

/-- Changes the Request Unit of one port. -/
def State.modRequests (s : State) (p : Port) (f : RequestUnit → RequestUnit) : State :=
  s.modPort p fun q => { q with requests := f q.requests }

/-- Changes the Transmit Unit of one port. -/
def State.modTransmit (s : State) (p : Port) (f : TransmitUnit → TransmitUnit) : State :=
  s.modPort p fun q => { q with transmit := f q.transmit }

/-- Changes the aperture table of one port. -/
def State.modAperture (s : State) (p : Port) (f : Aperture → Aperture) : State :=
  s.modPort p fun q => { q with aperture := f q.aperture }

/-- Changes the Pool Manager's state. -/
def State.modPool (s : State) (f : PoolManager → PoolManager) : State :=
  { s with pool := f s.pool }

/-- Changes the Share Unit's state. -/
def State.modShare (s : State) (f : ShareUnit → ShareUnit) : State :=
  { s with share := f s.share }

/-- The four ports. -/
def allPorts : List Port := [0, 1, 2, 3]

/-- The eight region slots. -/
def allSlots : List Slot := [0, 1, 2, 3, 4, 5, 6, 7]

/-- The port is in session: OPEN or CLOSING (R180). -/
def State.inSession (s : State) (p : Port) : Bool :=
  (s.port p).session.state.inSession

/-- The administrator role is HELD by the port; the administrator check of R193. -/
def State.isAdmin (s : State) (p : Port) : Bool :=
  s.role == .held p

/-! ### Time -/

/-- A number of milliseconds in ticks of the model's clock (log entry 3). -/
def ticks (ms : Nat) : Nat :=
  ms * Config.ticksPerMs

/-- An event that happens at a point in time has happened: the clock stands there or later (log entry 4). -/
def State.reachTime (s : State) (time : Nat) : State :=
  { s with now := max s.now time }

/-! ### RESET# -/

/-- The answer of every command but the two of the reset pins: the next state, and no change while RESET# is
low, since every block is then held in its reset state (R199; log entry 6). -/
def whenRunning (s next : State) : Answered :=
  .next (if s.resetLow then s else next)

/-! ### Notices (Chapter 7, 7.5) -/

/-- The entry rule of the notice queue (R151): the tail, or a drop counted as lost. -/
def TransmitUnit.enterNotice (t : TransmitUnit) (n : Notice) : TransmitUnit :=
  if t.notices.length < Config.noticePlaces then { t with notices := t.notices ++ [n] }
  else { t with lost := min 255 (t.lost + 1) }

/-- A notice enters a port's queue whatever its session state: SESSION_ENDED alone (R150). -/
def State.enterNotice (s : State) (p : Port) (n : Notice) : State :=
  s.modTransmit p fun t => t.enterNotice n

/-- A notice raised for a port (R150): it enters the queue of a port in session, and is discarded otherwise. -/
def State.raiseNotice (s : State) (p : Port) (n : Notice) : State :=
  if s.inSession p then s.enterNotice p n else s

/-- A notice meant for the administrator (R24): discarded while the role is VACANT or RESERVED. -/
def State.raiseForAdmin (s : State) (n : Notice) : State :=
  match s.role with
  | .held p => s.raiseNotice p n
  | .reserved _ | .vacant => s

/-- PORT_STATE of a port (R182): not raised when it would report the administrator's own port to itself. -/
def State.raisePortState (s : State) (p : Port) (state : SessionState) (cause : SessionCause) :
    State :=
  if s.isAdmin p then s else s.raiseForAdmin (.portState p state cause)

/-- ADMIN_CHANGED, one for each port in session (R183). -/
def State.raiseAdminChanged (s : State) (holder : Option Port) : State :=
  allPorts.foldl (fun t p => t.raiseNotice p (.adminChanged holder)) s

/-! ### Putting a frame on the link -/

/-- A frame is begun on the port's transmit pair (R136). -/
def State.send (s : State) (p : Port) (f : LinkFrame) : State :=
  s.modPort p fun q => { q with sent := q.sent ++ [f] }

/-- A received run of bytes joins the waiting commands (08, opening text: the Link Unit is handed one frame at a
time, whole). -/
def State.receiveBytes (s : State) (p : Port) (bytes : List Byte) : State :=
  { s with pending := s.pending ++ [commandOfWire p bytes] }

end Sys2Proof.Machine
end

