-- ==== Sys2Proof/Machine/Pool.lean ====
section
/-! DEFINITION. The Pool Manager and the Scrubber (Chapter 1): frame records, regions, the claims, disposal, the
scrub position, error accounting and draining. -/

namespace Sys2Proof.Machine

/-! ### Frame records and regions -/

/-- The record of a frame (R5); a frame that is not listed is ABSENT. -/
def PoolManager.frame (q : PoolManager) (f : Nat) : FrameRecord :=
  (Sparse.get q.frames f).getD .absentRecord

/-- Writes the record of a frame; the record of an ABSENT frame is not listed. -/
def PoolManager.setFrame (q : PoolManager) (f : Nat) (r : FrameRecord) : PoolManager :=
  { q with frames := Sparse.set q.frames f (if r = .absentRecord then none else some r) }

/-- The record of a frame in the machine. -/
def State.frame (s : State) (f : Nat) : FrameRecord :=
  s.pool.frame f

/-- Writes the record of a frame. -/
def State.setFrame (s : State) (f : Nat) (r : FrameRecord) : State :=
  s.modPool fun q => q.setFrame f r

/-- The record of a region slot (R2). -/
def State.region (s : State) (k : Slot) : Region :=
  s.pool.regions[k]

/-- Changes the record of a region slot. -/
def State.modRegion (s : State) (k : Slot) (f : Region → Region) : State :=
  s.modPool fun q => { q with regions := q.regions.set k (f q.regions[k]) }

/-- The first frame of a slot's span (R3): 0 for slot 0, the end of the slot below for the others; 0 when that
slot has no end. -/
def State.regionStart (s : State) (k : Slot) : Nat :=
  if h : k.val = 0 then 0
  else ((s.pool.regions[k.val - 1]'(by omega)).stop).getD 0

/-- The end of a slot's span; 0 for an EMPTY slot (R2, R3). -/
def State.regionStop (s : State) (k : Slot) : Nat :=
  ((s.region k).stop).getD 0

/-- The frame lies in the slot's span (R3). -/
def State.inRegion (s : State) (k : Slot) (f : Nat) : Bool :=
  decide (s.regionStart k ≤ f) && decide (f < s.regionStop k)

/-- The slot whose span contains the frame: the region slot field of a frame record (R3, R5). -/
def State.regionSlot (s : State) (f : Nat) : Option Slot :=
  allSlots.find? fun k => s.inRegion k f

/-- The lowest EMPTY slot, if there is one (R28). -/
def State.lowestEmpty (s : State) : Option Slot :=
  allSlots.find? fun k => (s.region k).state == .empty

/-- The highest slot that is not EMPTY, if there is one (R29). -/
def State.highestUsed (s : State) : Option Slot :=
  allSlots.reverse.find? fun k => (s.region k).state != .empty

/-- The pool size: the end of the highest non-EMPTY slot, or 0 (R3). -/
def State.poolSize (s : State) : Nat :=
  match s.highestUsed with
  | some k => s.regionStop k
  | none => 0

/-- The frame's region is in this state. -/
def State.regionIs (s : State) (f : Nat) (state : RegionState) : Bool :=
  match s.regionSlot f with
  | some k => (s.region k).state == state
  | none => false

/-! ### The scrub position (R11, R12, R14) -/

/-- The head follows the scrub queue (R11): a changed head starts at 0 operations done, and an operation that is
presented and not yet granted is withdrawn (R14). -/
def PoolManager.followHead (q : PoolManager) : PoolManager :=
  if q.scrub.head = q.scrubQueue.head? then q
  else
    { q with
      scrub :=
        { head := q.scrubQueue.head?
          done := 0
          op :=
            match q.scrub.op with
            | .presented _ _ => .idle
            | .idle => .idle
            | .inMemory f b => .inMemory f b } }

/-- The Scrubber presents its next block when its operation state is NONE and it has a head frame (R12). -/
def PoolManager.presentScrub (q : PoolManager) : PoolManager :=
  match q.scrub.op, q.scrub.head with
  | .idle, some f => { q with scrub := { q.scrub with op := .presented f q.scrub.done } }
  | .idle, none => q
  | .presented _ _, _ => q
  | .inMemory _ _, _ => q

/-- What the Scrubber does at the end of an event that may have changed the scrub queue (R11 to R14). -/
def PoolManager.settleScrub (q : PoolManager) : PoolManager :=
  q.followHead.presentScrub

/-- The Scrubber's part at the end of an event. -/
def State.settleScrub (s : State) : State :=
  s.modPool PoolManager.settleScrub

/-! ### Retirement and disposal (R19, R26) -/

/-- No frame of the region is HELD or PARKED (R25, step 6). In a DRAINING region every other frame is RETIRED
(R25), so this is R26's "last of its frames" (log entry 15). -/
def State.noneHeld (s : State) (k : Slot) : Bool :=
  s.pool.frames.all fun e =>
    !(s.inRegion k e.1 && (e.2.state == .held || e.2.state == .parked))

/-- A DRAINING region becomes RETIRED, with its REGION_STATE notice (R26). -/
def State.retireRegion (s : State) (k : Slot) : State :=
  (s.modRegion k fun r => { r with state := .retired }).raiseForAdmin
    (.regionState k .retired (s.region k).cause)

/-- The region's retired count rises (R19). -/
def State.countRetired (s : State) (k : Slot) : State :=
  s.modRegion k fun r => { r with retired := r.retired + 1 }

/-- After a frame of a region retired: a DRAINING region with no frame left becomes RETIRED (R19, R26). -/
def State.afterRetired (s : State) (k : Slot) : State :=
  let t := s.countRetired k
  if (t.region k).state = .draining ∧ t.noneHeld k then t.retireRegion k else t

/-- A frame that emptied retires: poisoned, or its region DRAINING (R19). -/
def State.retireFrame (s : State) (f : Nat) : State :=
  let t := s.setFrame f { s.frame f with state := .retired, originator := none }
  match s.regionSlot f with
  | some k => t.afterRetired k
  | none => t

/-- A frame that emptied goes back to the scrub queue (R19). -/
def State.queueScrub (s : State) (f : Nat) : State :=
  ((s.setFrame f { s.frame f with state := .scrubbing, originator := none }).modPool fun q =>
    { q with scrubQueue := q.scrubQueue ++ [f] }).settleScrub

/-- The disposal of a frame that reached holders 0 and pins 0 (R19). -/
def State.dispose (s : State) (f : Nat) : State :=
  if (s.frame f).poisoned ∨ s.regionIs f .draining then s.retireFrame f else s.queueScrub f

/-- After a hold or pin count fell: a HELD or PARKED frame with holders 0 is disposed of at pins 0 and PARKED
otherwise; with a holder it stays HELD (R17, R18). -/
def State.settleFrame (s : State) (f : Nat) : State :=
  let r := s.frame f
  if r.state = .held ∨ r.state = .parked then
    if r.holders = 0 then
      if r.pins = 0 then s.dispose f else s.setFrame f { r with state := .parked }
    else s
  else s

/-! ### Claims (1.6) -/

/-- A take claim of R15, granted: `count` frames leave the head of the free list as HELD frames of the port. -/
def State.take (s : State) (p : Port) (count : Nat) : State :=
  (s.pool.freeList.take count).foldl
    (fun t f =>
      t.setFrame f
        { t.frame f with state := .held, holders := 1, pins := 0, originator := some p })
    (s.modPool fun q => { q with freeList := q.freeList.drop count })

/-- A hold claim (R16). -/
def State.hold (s : State) (f : Nat) : State :=
  s.setFrame f { s.frame f with holders := (s.frame f).holders + 1 }

/-- An unhold claim (R17). -/
def State.unhold (s : State) (f : Nat) : State :=
  (s.setFrame f { s.frame f with holders := (s.frame f).holders - 1 }).settleFrame f

/-- A pin claim (R18). -/
def State.pin (s : State) (f : Nat) : State :=
  s.setFrame f { s.frame f with pins := (s.frame f).pins + 1 }

/-- An unpin claim (R18). -/
def State.unpin (s : State) (f : Nat) : State :=
  (s.setFrame f { s.frame f with pins := (s.frame f).pins - 1 }).settleFrame f

/-! ### Draining (1.9) -/

/-- A frame becomes RETIRED by a drain start (R25, steps 2 and 3). -/
def PoolManager.retireUnheld (q : PoolManager) (f : Nat) : PoolManager :=
  q.setFrame f { q.frame f with state := .retired }

/-- The frames of the region that nobody holds: those on the free list, then those in the scrub queue (R25, steps 2
and 3). -/
def State.unheldFrames (s : State) (k : Slot) : List Nat :=
  s.pool.freeList.filter (s.inRegion k) ++ s.pool.scrubQueue.filter (s.inRegion k)

/-- R25, step 1. -/
def State.markDraining (s : State) (k : Slot) (cause : DrainCause) : State :=
  (s.modRegion k fun r => { r with state := .draining, cause := some cause }).raiseForAdmin
    (.regionState k .draining (some cause))

/-- R25, steps 2 to 4, with what R14 gives for the Scrubber. -/
def State.retireUnheldFrames (s : State) (k : Slot) : State :=
  ((s.modPool fun q =>
      { (s.unheldFrames k).foldl PoolManager.retireUnheld q with
        freeList := q.freeList.filter fun f => !s.inRegion k f
        scrubQueue := q.scrubQueue.filter fun f => !s.inRegion k f }).modRegion k fun r =>
    { r with retired := r.retired + (s.unheldFrames k).length }).settleScrub

/-- The drain start of R25. -/
def State.startDrain (s : State) (k : Slot) (cause : DrainCause) : State :=
  let t := (s.markDraining k cause).retireUnheldFrames k
  if t.noneHeld k then t.retireRegion k else t

/-! ### Memory errors (1.7) -/

/-- How a READ_LINES operation ended (R127). -/
inductive ReadClass where
  | clean | corrected | uncorrectable
  deriving DecidableEq, Repr

/-- The threshold comparison of R23, made when the count has just been incremented. -/
def State.compareThreshold (s : State) (k : Slot) : State :=
  if (s.region k).uncorrectable = s.pool.errorThreshold ∧ s.pool.errorThreshold ≠ 0 ∧
      (s.region k).state = .online then
    s.startDrain k .threshold
  else s

/-- The uncorrectable count of a region rises, saturating at 255; at 255 no comparison is made (R22, R23). -/
def State.countUncorrectable (s : State) (k : Slot) : State :=
  if (s.region k).uncorrectable < 255 then
    (s.modRegion k fun r => { r with uncorrectable := r.uncorrectable + 1 }).compareThreshold k
  else s

/-- The poisoned flag goes from clear to set with its FRAME_POISONED notice (R22, R24). -/
def State.poison (s : State) (f : Nat) : State :=
  if (s.frame f).poisoned then s
  else
    (s.setFrame f { s.frame f with poisoned := true }).raiseForAdmin
      (.framePoisoned f (s.regionSlot f))

/-- The error accounting of one READ completion (R20, step 1; R21, R22). -/
def State.accountRead (s : State) (f : Nat) : ReadClass → State
  | .clean => s
  | .corrected =>
    match s.regionSlot f with
    | some k => s.modRegion k fun r => { r with corrected := min 65535 (r.corrected + 1) }
    | none => s
  | .uncorrectable =>
    match s.regionSlot f with
    | some k => (s.poison f).countUncorrectable k
    | none => s.poison f

/-! ### Scrub completions (R13) -/

/-- The head frame has had its 256th operation: it joins the free list (R13). -/
def PoolManager.finishScrub (q : PoolManager) (f : Nat) : PoolManager :=
  { q.setFrame f { q.frame f with state := .free } with
    scrubQueue := q.scrubQueue.drop 1
    freeList := q.freeList ++ [f] }

/-- A ZERO_LINES completion on frame `f` reaches the Scrubber (R13). -/
def PoolManager.scrubCompleted (q : PoolManager) (f : Nat) : PoolManager :=
  let q1 := { q with scrub := { q.scrub with op := .idle } }
  if q.scrub.head = some f then
    if q.scrub.done + 1 = Config.frameBlocks then (q1.finishScrub f).settleScrub
    else
      PoolManager.settleScrub { q1 with scrub := { q1.scrub with done := q.scrub.done + 1 } }
  else q1.settleScrub

end Sys2Proof.Machine
end

