-- ==== Sys2Proof/Machine/Memory.lean ====
section
/-! DEFINITION. The attached DRAM and the Memory Channel Controller (6.4): line reads, line writes and zero fills. -/

namespace Sys2Proof.Machine

/-- The number of a frame's line through the whole DRAM (R1). -/
def dramLine (frame line : Nat) : Nat :=
  frame * Config.frameLines + line

/-- The DRAM address of a byte of a frame (R1). -/
def dramAddress (frame offset : Nat) : Nat :=
  frame * Config.frameBytes + offset

/-- DRAM is fitted for the line (R127). -/
def Dram.isFitted (d : Dram) (line : Nat) : Bool :=
  d.fitted.any fun span => decide (span.1 ≤ line) && decide (line < span.2)

/-- The flaw that a line is known to hold, if any (R127, R128). -/
def Dram.flaw (d : Dram) (line : Nat) : Option LineFlaw :=
  Sparse.get d.flaws line

/-- What is found in a line that is read (R127): a line without DRAM, and a line with the marker or an uncorrectable
error, is uncorrectable; a line that needed correction needs it again; otherwise the line is as the DRAM's check
reports it now (log entry 8). -/
def Dram.found (d : Dram) (line : Nat) (report : LineReport) : LineReport :=
  if d.isFitted line then
    match d.flaw line, report with
    | some .marker, _ => .uncorrectable
    | some .uncorrectable, _ => .uncorrectable
    | some .correctable, .clean => .corrected
    | some .correctable, r => r
    | none, r => r
  else .uncorrectable

/-- The condition of a line for the classification (R127): an error that passed unseen reads as clean. -/
def readClassOf : LineReport → ReadClass
  | .clean => .clean
  | .unseen _ => .clean
  | .corrected => .corrected
  | .uncorrectable => .uncorrectable

/-- The worse of two conditions (R127). -/
def ReadClass.worse : ReadClass → ReadClass → ReadClass
  | .uncorrectable, _ => .uncorrectable
  | .corrected, .uncorrectable => .uncorrectable
  | .corrected, .clean => .corrected
  | .corrected, .corrected => .corrected
  | .clean, c => c

/-- What an operation finds in each of its lines, first line first; a line without a report is clean. -/
def Dram.foundLines (d : Dram) (firstLine count : Nat) (reports : List LineReport) :
    List LineReport :=
  (List.range count).map fun i => d.found (firstLine + i) (reports.getD i .clean)

/-- The classification of a READ_LINES operation: the worst condition among its lines (R127). -/
def classify (found : List LineReport) : ReadClass :=
  found.foldl (fun c r => c.worse (readClassOf r)) .clean

/-- The byte at an address; an undefined byte reads as a free value (log entry 1). -/
def Dram.byte (d : Dram) (freeIndex address : Nat) : Byte :=
  match Sparse.get d.bytes address with
  | some b => b
  | none => Config.undefinedByte freeIndex address

/-- The byte an operation reads at an address, given what was found in its line (R127). -/
def Dram.readByte (d : Dram) (freeIndex address : Nat) : LineReport → Byte
  | .unseen bytes => bytes.getD (address % Config.lineBytes) (d.byte freeIndex address)
  | .clean | .corrected => d.byte freeIndex address
  | .uncorrectable => Config.undefinedByte freeIndex address

/-- The bytes a READ returns (R109): `length` bytes from DRAM address `start`, out of lines of which the first is
`firstLine`. -/
def Dram.readBytes (d : Dram) (freeIndex firstLine start length : Nat) (found : List LineReport) :
    List Byte :=
  (List.range length).map fun i =>
    d.readByte freeIndex (start + i)
      (found.getD ((start + i) / Config.lineBytes - firstLine) .clean)

/-- Stores a byte, or makes it undefined. -/
def Dram.setByte (d : Dram) (address : Nat) (b : Option Byte) : Dram :=
  { d with bytes := Sparse.set d.bytes address b }

/-- Gives a line a flaw, or check bits that match it (R127, R128). -/
def Dram.setFlaw (d : Dram) (line : Nat) (flaw : Option LineFlaw) : Dram :=
  { d with flaws := Sparse.set d.flaws line flaw }

/-- Stores bytes at rising addresses; none makes a byte undefined. -/
def Dram.setBytes (d : Dram) (address : Nat) : List (Option Byte) → Dram
  | [] => d
  | b :: bs => (d.setByte address b).setBytes (address + 1) bs

/-- The byte a WRITE names at an address, if it names one (R128): `data` stands at DRAM address `start`. -/
def namedByte (start : Nat) (data : List Byte) (address : Nat) : Option Byte :=
  if start ≤ address then data[address - start]? else none

/-- The 32 addresses of a line (R1). -/
def lineAddresses (line : Nat) : List Nat :=
  (List.range Config.lineBytes).map fun i => line * Config.lineBytes + i

/-- All 32 byte positions of a line are named (R128). -/
def fullyNamed (start : Nat) (data : List Byte) (line : Nat) : Bool :=
  (lineAddresses line).all fun a => (namedByte start data a).isSome

/-- What a written line holds after a WRITE_LINES operation (R128), byte by byte: the named bytes, and where the
line had to be read first the line as read; the bytes of an uncorrectable line that are not named are undefined. -/
def Dram.mergedLine (d : Dram) (line start : Nat) (data : List Byte) (found : LineReport) :
    List (Option Byte) :=
  (lineAddresses line).map fun a =>
    match namedByte start data a, found with
    | some b, _ => some b
    | none, .clean => Sparse.get d.bytes a
    | none, .corrected => Sparse.get d.bytes a
    | none, .unseen bytes => bytes[a % Config.lineBytes]?.or (Sparse.get d.bytes a)
    | none, .uncorrectable => none

/-- A line after a READ_LINES operation found it so (R127): the operation does not write, so a line that needed
correction keeps its error. A line keeps an uncorrectable error too, and holds the bytes that passed unseen
(log entry 27). -/
def Dram.keepFound (d : Dram) (line : Nat) (found : LineReport) : Dram :=
  if d.isFitted line then
    match found with
    | .clean => d
    | .corrected => d.setFlaw line (some .correctable)
    | .uncorrectable =>
      if d.flaw line = some .marker then d else d.setFlaw line (some .uncorrectable)
    | .unseen bytes =>
      (d.setBytes (line * Config.lineBytes) (d.mergedLine line 0 [] (.unseen bytes))).setFlaw line none
  else d

/-- The DRAM after a READ_LINES operation, from its first line on. -/
def Dram.keepLines (d : Dram) : Nat → List LineReport → Dram
  | _, [] => d
  | line, r :: rs => (d.keepFound line r).keepLines (line + 1) rs

/-- One line of a WRITE_LINES operation (R128): nothing where no DRAM is fitted; a line named in full, or merged
from a line that could be read, gets fresh check bits, and a line that could not gets the marker. -/
def Dram.writeLine (d : Dram) (line start : Nat) (data : List Byte) (report : LineReport) : Dram :=
  if d.isFitted line then
    let found := d.found line report
    (d.setBytes (line * Config.lineBytes) (d.mergedLine line start data found)).setFlaw line
      (if !fullyNamed start data line && found == .uncorrectable then some .marker else none)
  else d

/-- A WRITE_LINES operation (R128): its lines in order, each with its report (clean where there is none). -/
def Dram.writeLines (d : Dram) (start : Nat) (data : List Byte) (reports : List LineReport) :
    Nat → Nat → Dram
  | _, 0 => d
  | line, count + 1 =>
    (d.writeLine line start data (reports.getD 0 .clean)).writeLines start data (reports.drop 1)
      (line + 1) count

/-- One line of a ZERO_LINES operation (R129). -/
def Dram.zeroLine (d : Dram) (line : Nat) : Dram :=
  if d.isFitted line then
    (d.setBytes (line * Config.lineBytes)
      (List.replicate Config.lineBytes (some 0))).setFlaw line none
  else d

/-- A ZERO_LINES operation (R129). -/
def Dram.zeroLines (d : Dram) (line : Nat) : Nat → Dram
  | 0 => d
  | count + 1 => (d.zeroLine line).zeroLines (line + 1) count

end Sys2Proof.Machine
end

