-- ==== Sys2Proof/Machine/Sharing.lean ====
section
/-! DEFINITION. The aperture tables (Chapter 2) and the offer table (Chapter 3): page slots, translation, release of
a page, offer numbers, and removal of offers. -/

namespace Sys2Proof.Machine

/-! ### Aperture tables -/

/-- The mapping record of a page slot, or none when it is EMPTY (R36). -/
def State.slotAt (s : State) (p : Port) (page : Nat) : Option Mapping :=
  Sparse.get (s.port p).aperture.slots page

/-- The mapped count (R37). -/
def State.mappedCount (s : State) (p : Port) : Nat :=
  (s.port p).aperture.slots.length

/-- The port maps the frame in one of its slots (R57, R60). -/
def State.maps (s : State) (p : Port) (frame : Nat) : Bool :=
  (s.port p).aperture.slots.any fun e => e.2.frame == frame

/-- Fills a page slot, or empties it (R36). -/
def State.setSlot (s : State) (p : Port) (page : Nat) (m : Option Mapping) : State :=
  s.modAperture p fun a => { a with slots := Sparse.set a.slots page m }

/-- The translation of a READ or WRITE (R48, R49): the result of the first check that fails, or the translation.
`address` has no bit above its 28 address bits set (R35). -/
def State.translate (s : State) (p : Port) (isWrite : Bool) (address length : Nat) :
    Except ResultCode Translation :=
  match s.slotAt p (pageOf address) with
  | none => .error .faultUnmapped
  | some m =>
    if isWrite && m.rights != .rw then .error .faultRights
    else if withinBlock (offsetOf address) length then
      .ok
        { frame := m.frame
          firstLine := firstLineOf (offsetOf address)
          lineCount := lineCountOf (offsetOf address) length
          firstByte := offsetOf address
          length := length }
    else .error .bounds

/-! ### The offer table -/

/-- The record with this number whose target is the port (R62, R64). -/
def State.offerTo (s : State) (number : Byte) (p : Port) : Option Offer :=
  s.share.offers.find? fun o => o.number == number && o.target == p

/-- The record with this number whose offering port is the port (R65). -/
def State.offerBy (s : State) (number : Byte) (p : Port) : Option Offer :=
  s.share.offers.find? fun o => o.number == number && o.offering == p

/-- The number after an offer number: 255 is followed by 1 (R58). -/
def nextOfferNumber (n : Byte) : Byte :=
  if n = 255 then 1 else n + 1

/-- The first number from `n` upward that no record carries (R58); `steps` numbers are looked at. -/
def firstFreeNumber (offers : List Offer) (n : Byte) : Nat → Byte
  | 0 => n
  | steps + 1 =>
    if offers.any fun o => o.number == n then
      firstFreeNumber offers (nextOfferNumber n) steps
    else n

/-- The number a new record gets (R58); with at most 16 records a free number is found in 17 looks. -/
def ShareUnit.freeNumber (u : ShareUnit) : Byte :=
  firstFreeNumber u.offers u.nextNumber 255

/-- Takes the records with this property out of the table; the others keep their order (R56). -/
def ShareUnit.removeOffers (u : ShareUnit) (gone : Offer → Bool) : ShareUnit :=
  { u with offers := u.offers.filter fun o => !gone o }

/-- Removes the record of a number (R56). -/
def State.removeOffer (s : State) (number : Byte) : State :=
  s.modShare fun u => u.removeOffers fun o => o.number == number

/-- Raises one notice for each of these records, in their order. -/
def State.raiseOfferNotices (s : State) (offers : List Offer) (note : Offer → Port × Notice) :
    State :=
  offers.foldl (fun t o => t.raiseNotice (note o).1 (note o).2) s

/-- The Share Unit's part in the release of a page (R67). -/
def State.withdrawForPage (s : State) (p : Port) (page : Nat) : State :=
  let gone := fun (o : Offer) => o.offering == p && o.page == page
  ((s.modShare fun u => u.removeOffers gone).raiseOfferNotices (s.share.offers.filter gone))
    fun o => (o.target, .offerWithdrawn o.number .released)

/-- The Share Unit's part in a teardown (R68). -/
def State.removeOffersOf (s : State) (p : Port) : State :=
  let gone := fun (o : Offer) => o.offering == p || o.target == p
  ((s.modShare fun u => u.removeOffers gone).raiseOfferNotices (s.share.offers.filter gone))
    fun o =>
      if o.offering = p then (o.target, .offerWithdrawn o.number .offererGone)
      else (o.offering, .offerDeclined o.number .targetGone)

/-! ### Release and mapping -/

/-- The release of one page (R44): its offers, its slot, its unhold claim. An EMPTY page is left as it is. -/
def State.releasePage (s : State) (p : Port) (page : Nat) : State :=
  match s.slotAt p page with
  | none => s
  | some m => ((s.withdrawForPage p page).setSlot p page none).unhold m.frame

/-- The release of pages in the order given (R44). -/
def State.releasePages (s : State) (p : Port) (pages : List Nat) : State :=
  pages.foldl (fun t page => t.releasePage p page) s

/-- The release of every mapping of a port in ascending page order (R55). -/
def State.releaseAll (s : State) (p : Port) : State :=
  s.releasePages p ((s.port p).aperture.slots.map Prod.fst)

/-- Maps frames to consecutive pages with rights RW and origin ALLOCATED (R41). -/
def State.mapFrames (s : State) (p : Port) (page : Nat) : List Nat → State
  | [] => s
  | f :: fs =>
    (s.setSlot p page (some { frame := f, rights := .rw, origin := .allocated })).mapFrames p
      (page + 1) fs

/-- The mapping step of ACCEPT (R46). -/
def State.mapAccepted (s : State) (p : Port) (page : Nat) (o : Offer) : State :=
  (s.setSlot p page (some { frame := o.frame, rights := o.rights, origin := .accepted })).hold
    o.frame

end Sys2Proof.Machine
end

