-- ==== Sys2Proof/Machine/Execution.lean ====
section
/-! DEFINITION. Class queues and entries (Chapter 4), ordering and execution (Chapter 5), and the Memory Scheduler
(Chapter 6): candidates, eligibility, presentation, barriers, the grant decision, and what a completion does to
its entry. -/

namespace Sys2Proof.Machine

/-! ### Class queues -/

/-- The entries of one class, oldest first: its class queue (R90). -/
def RequestUnit.queue (r : RequestUnit) (c : ReqClass) : List Entry :=
  r.entries.filter fun e => e.cls == c

/-- The window of a class (R84). -/
def windowOf : ReqClass → Nat
  | .expedited => Config.expeditedWindow
  | .ordinary => Config.ordinaryWindow

/-- The next acceptance number of a class (R87). -/
def RequestUnit.nextNumber (r : RequestUnit) : ReqClass → Byte
  | .expedited => r.nextExpedited
  | .ordinary => r.nextOrdinary

/-- The counter of a class advances, from 255 to 0 (R87). -/
def RequestUnit.advance (r : RequestUnit) : ReqClass → RequestUnit
  | .expedited => { r with nextExpedited := r.nextExpedited + 1 }
  | .ordinary => { r with nextOrdinary := r.nextOrdinary + 1 }

/-- The free write lines (R85, R94). -/
def RequestUnit.freeLines (r : RequestUnit) : Nat :=
  Config.writeLines - r.reservedLines

/-- Removes the first entry with a property; the others keep their order (R90). -/
def removeFirst (f : Entry → Bool) : List Entry → List Entry
  | [] => []
  | e :: es => if f e then es else e :: removeFirst f es

/-- Changes the first entry with a property. -/
def changeFirst (f : Entry → Bool) (g : Entry → Entry) : List Entry → List Entry
  | [] => []
  | e :: es => if f e then g e :: es else e :: changeFirst f g es

/-! ### Eligibility (R99 to R104) -/

/-- A FENCE or CLOSE entry (R101, R113). -/
def Entry.isBarrier (e : Entry) : Bool :=
  e.kind == .fence || e.kind == .closeSession

/-- A data entry: a READ or WRITE whose translation succeeded (R99). -/
def Entry.isData (e : Entry) : Bool :=
  e.translation.isSome

/-- A WRITE. -/
def Entry.isWrite (e : Entry) : Bool :=
  e.kind == .write

/-- Two data entries conflict: translated to one frame, and one of them a WRITE (R103, R104). -/
def Entry.conflicts (a b : Entry) : Bool :=
  match a.translation, b.translation with
  | some t, some u => t.frame == u.frame && (a.isWrite || b.isWrite)
  | _, none => false
  | none, some _ => false

/-- A PENDING data entry with the entries accepted before it is eligible to start (R100). -/
def eligible (mode : OrderMode) (older : List Entry) (e : Entry) : Bool :=
  older.all fun o =>
    !(o.cls == e.cls && o.state == .waiting) &&
    !(o.isBarrier && o.state != .done) &&
    match mode with
    | .arrival => !(o.cls != e.cls && o.state == .waiting)
    | .priority => !(o.cls != e.cls && o.state != .done && o.conflicts e)

/-- The class candidate: the oldest PENDING data entry of the class, with the entries before and after it (R99). -/
def candidate (c : ReqClass) : List Entry → List Entry → Option (List Entry × Entry × List Entry)
  | _, [] => none
  | older, e :: younger =>
    if e.cls = c ∧ e.state = .waiting ∧ e.isData then some (older, e, younger)
    else candidate c (older ++ [e]) younger

/-- The candidate of a class, if it is eligible. -/
def eligibleCandidate (mode : OrderMode) (c : ReqClass) (entries : List Entry) :
    Option (List Entry × Entry × List Entry) :=
  match candidate c [] entries with
  | some (older, e, younger) => if eligible mode older e then some (older, e, younger) else none
  | none => none

/-- The choice of R105: the Expedited candidate if it is eligible, otherwise the Ordinary one if it is. -/
def chooseEntry (mode : OrderMode) (entries : List Entry) :
    Option (List Entry × Entry × List Entry) :=
  match eligibleCandidate mode .expedited entries with
  | some x => some x
  | none => eligibleCandidate mode .ordinary entries

/-- The port's presented entry, if it has one (R77). -/
def RequestUnit.presentedEntry (r : RequestUnit) : Option Entry :=
  r.entries.find? fun e => e.state == .presented

/-- The Request Unit looks for an entry to present (R106, R116). -/
def RequestUnit.present (r : RequestUnit) (session : SessionState) : RequestUnit :=
  if session = .teardown ∨ r.presentedEntry.isSome then r
  else
    match chooseEntry r.mode r.entries with
    | some (older, e, younger) =>
      { r with entries := older ++ { e with state := .presented } :: younger }
    | none => r

/-- The Request Unit of a port looks for an entry to present (R106). -/
def State.present (s : State) (p : Port) : State :=
  s.modRequests p fun r => r.present (s.port p).session.state

/-! ### Barriers (R111, R112) -/

/-- The barrier step: unfinished FENCE and CLOSE entries, oldest first, become DONE when every older entry is
(R111, R112). `allDone` says so of the entries already looked at. -/
def barrierStep : Bool → List Entry → List Entry
  | _, [] => []
  | allDone, e :: es =>
    let e' :=
      if allDone && e.isBarrier && e.state == .waiting then
        { e with state := .done, result := some .ok }
      else e
    e' :: barrierStep (allDone && e'.state == .done) es

/-! ### Operations presented to the Memory Scheduler (R106, R118, R120) -/

/-- The operation made from a data entry (R106). -/
def Entry.operation (e : Entry) (p : Port) : Option Operation :=
  match e.translation with
  | some t =>
    some
      { participant := .port p
        kind := if e.isWrite then .writeLines else .readLines
        frame := t.frame
        firstLine := t.firstLine
        lineCount := t.lineCount }
  | none => none

/-- The operation a participant has presented, if any (R120). -/
def State.presentedOp (s : State) : Participant → Option Operation
  | .port p =>
    match (s.port p).requests.presentedEntry with
    | some e => e.operation p
    | none => none
  | .scrubber =>
    match s.pool.scrub.op with
    | .presented f b =>
      some
        { participant := .scrubber
          kind := .zeroLines
          frame := f
          firstLine := Config.blockLines * b
          lineCount := Config.blockLines }
    | .idle => none
    | .inMemory _ _ => none

/-! ### Rotation and grants (R122 to R124) -/

/-- The number of a participant in SET_WEIGHT (R126). -/
def Participant.index : Participant → Fin 5
  | .port p => p.castSucc
  | .scrubber => 4

/-- The weight of a participant (R122). -/
def Scheduler.weight (c : Scheduler) (x : Participant) : Nat :=
  c.weights[x.index]

/-- The participants in rotation order, starting with the one after the given one and ending with it (R120,
R123). -/
def rotationAfter : Participant → List Participant
  | .port 0 => [.port 1, .port 2, .port 3, .scrubber, .port 0]
  | .port 1 => [.port 2, .port 3, .scrubber, .port 0, .port 1]
  | .port 2 => [.port 3, .scrubber, .port 0, .port 1, .port 2]
  | .port 3 => [.scrubber, .port 0, .port 1, .port 2, .port 3]
  | .scrubber => [.port 0, .port 1, .port 2, .port 3, .scrubber]

/-- The turn continues: the holder has a presentation and its turn line count is below its weight (R123, case 1). -/
def State.turnContinues (s : State) : Bool :=
  (s.presentedOp s.scheduler.holder).isSome &&
    decide (s.scheduler.turnLines < s.scheduler.weight s.scheduler.holder)

/-- The participant that the grant decision picks, if any presents (R123). -/
def State.grantChoice (s : State) : Option Participant :=
  if s.turnContinues then some s.scheduler.holder
  else (rotationAfter s.scheduler.holder).find? fun x => (s.presentedOp x).isSome

/-- The participant is told of its grant (R108, R124). -/
def State.tellGranted (s : State) : Participant → State
  | .port p =>
    (s.modRequests p fun r =>
      { r with
        entries := changeFirst (fun e => e.state == .presented)
          (fun e => { e with state := .inMemory }) r.entries }).present p
  | .scrubber =>
    s.modPool fun q =>
      match q.scrub.op with
      | .presented f b => { q with scrub := { q.scrub with op := .inMemory f b } }
      | .idle => q
      | .inMemory _ _ => q

/-- The grant of a participant's operation (R123, R124). -/
def State.grantTo (s : State) (x : Participant) (o : Operation) : State :=
  { s with
    inFlight := some o
    scheduler :=
      { s.scheduler with
        holder := x
        turnLines :=
          (if s.turnContinues then s.scheduler.turnLines else 0) + o.lineCount } }.tellGranted x

/-- A grant, taken when the channel is IDLE and a participant presents (R123). -/
def State.takeGrant (s : State) : State :=
  match s.inFlight, s.grantChoice with
  | none, some x =>
    match s.presentedOp x with
    | some o => s.grantTo x o
    | none => s
  | none, none => s
  | some _, _ => s

/-! ### Completion of an entry (R109 to R111) -/

/-- An entry IN_MEMORY. -/
def Entry.inMem (e : Entry) : Bool :=
  e.state == .inMemory

/-- The port's entry IN_MEMORY, if it has one. -/
def RequestUnit.memoryEntry (r : RequestUnit) : Option Entry :=
  r.entries.find? Entry.inMem

/-- A READ entry is DONE with its data, or with DATA_ERROR and none (R109). -/
def Entry.readDone (e : Entry) (c : ReadClass) (data : List Byte) : Entry :=
  match c with
  | .clean | .corrected => { e with state := .done, result := some .ok, readData := some data }
  | .uncorrectable => { e with state := .done, result := some .dataError, readData := none }

/-- A WRITE entry is DONE with OK and gives up its data (R110). -/
def Entry.writeDone (e : Entry) : Entry :=
  { e with state := .done, result := some .ok, writeData := none }

/-- The entry IN_MEMORY is changed by its completion, and the barrier step follows (R109 to R111). -/
def RequestUnit.complete (r : RequestUnit) (g : Entry → Entry) : RequestUnit :=
  { r with entries := barrierStep true (changeFirst Entry.inMem g r.entries) }

/-- The write lines of a completed or discarded WRITE are freed (R94). -/
def RequestUnit.freeWriteLines (r : RequestUnit) (count : Nat) : RequestUnit :=
  { r with reservedLines := r.reservedLines - count }

end Sys2Proof.Machine
end

