-- ==== Sys2Proof/Machine/Session.lean ====
section
/-! DEFINITION. Teardown (Chapter 9, 9.5; R97, R98) and link loss (Chapter 8, 8.6). -/

namespace Sys2Proof.Machine

/-! ### The end of a teardown (R188) -/

/-- The state a teardown ends in (R188, step 1). -/
def PortController.endState (c : PortController) : SessionState :=
  if c.cause = some .disabled ∨ c.disablePending then .disabled else .closed

/-- The session cause that PORT_STATE carries at a teardown's end (R182). -/
def PortController.endCause (c : PortController) : SessionCause :=
  match c.endState, c.cause with
  | .disabled, _ => .ended .disabled
  | _, some cause => .ended cause
  | _, none => .ended .closedByHost

/-- SESSION_ENDED at a teardown's end (R182; R188, step 3): raised for the port itself when it ends in DISABLED, or
in CLOSED after EVICTED. -/
def State.raiseSessionEnded (s : State) (p : Port) (c : PortController) : State :=
  if c.endState = .disabled then s.enterNotice p (.sessionEnded .disabled)
  else if c.cause = some .evicted then s.enterNotice p (.sessionEnded .evicted)
  else s

/-- The end of a port's teardown (R188). -/
def State.endTeardown (s : State) (p : Port) : State :=
  let c := (s.port p).session
  let s1 := s.modSession p fun c => { c with state := c.endState, disablePending := false }
  (s1.raisePortState p c.endState c.endCause).raiseSessionEnded p c

/-- The teardown ends when both class queues are empty (R98, R188). -/
def State.endTeardownIfEmpty (s : State) (p : Port) : State :=
  if (s.port p).requests.entries = [] then s.endTeardown p else s

/-! ### The start of a teardown (R186) -/

/-- Step 2 of R186 in the Transmit Unit (R142, R149, R153). -/
def TransmitUnit.clearForTeardown (t : TransmitUnit) : TransmitUnit :=
  { t with refusals := [], notices := [], lost := 0, burst := 0 }

/-- The claim and the write lines of an entry that a teardown discards (R97): a translated entry that has not
reached memory is unpinned, and a WRITE's lines are freed. -/
def State.discardEntry (s : State) (p : Port) (e : Entry) : State :=
  if e.state = .waiting ∨ e.state = .presented then
    match e.translation with
    | some t =>
      (if e.isWrite then s.modRequests p fun r => r.freeWriteLines t.lineCount else s).unpin t.frame
    | none => s
  else s

/-- The entries in the order in which a teardown treats them: the Expedited queue, then the Ordinary queue (R97). -/
def RequestUnit.teardownOrder (r : RequestUnit) : List Entry :=
  r.queue .expedited ++ r.queue .ordinary

/-- The class queues at the start of a teardown (R97): all entries but those IN_MEMORY are discarded. -/
def State.tearQueues (s : State) (p : Port) : State :=
  ((s.port p).requests.teardownOrder.foldl (fun t e => t.discardEntry p e) s).modRequests p fun r =>
    { r with entries := r.entries.filter Entry.inMem }

/-- Step 5 of R186: the role falls vacant when the port holds it (R193). -/
def State.vacateRole (s : State) (p : Port) : State :=
  if s.isAdmin p then ({ s with role := .vacant }).raiseAdminChanged none else s

/-- The start of a teardown (R186), with its end where no entry was kept. -/
def State.startTeardown (s : State) (p : Port) (cause : TeardownCause) : State :=
  let s1 := s.modSession p fun c => { c with state := .teardown, cause := some cause }
  let s2 := s1.modTransmit p TransmitUnit.clearForTeardown
  let s3 := s2.tearQueues p
  let s4 := s3.removeOffersOf p
  let s5 := s4.vacateRole p
  let s6 := s5.releaseAll p
  s6.endTeardownIfEmpty p

/-! ### Link loss (R176, R177) -/

/-- The HELLO timer and HELLO pending on entering a link state (R159, R160, R176): in ALIGNING and ANSWERING a
LINK_HELLO is due at once and another after 1 ms. -/
def LinkUnit.startHello (l : LinkUnit) (state : LinkState) (now : Nat) : LinkUnit :=
  match state with
  | .aligning | .answering =>
    { l with state := state, helloPending := true, helloTimer := some (now + ticks 1) }
  | .offline | .up => { l with state := state, helloPending := false, helloTimer := none }

/-- The Link Unit's own state at link loss (R176). -/
def LinkUnit.lose (l : LinkUnit) (state : LinkState) (now : Nat) : LinkUnit :=
  { l with
    replay := []
    retransmit := none
    replayTimer := none
    timeouts := 0
    pendingAck := none
    pendingNak := none
    nakFlag := false
    expected := 0
    nextOut := 0 }.startHello state now

/-- The Transmit Unit's state at link loss (R142, R146, R149, R153; R177, step 1). -/
def TransmitUnit.clearForLinkLoss (t : TransmitUnit) : TransmitUnit :=
  { t with
    refusals := []
    notices := []
    lost := 0
    hold := false
    holdTimer := none
    overdueSent := false
    burst := 0 }

/-- Link loss into the given state (R176, R177). -/
def State.loseLink (s : State) (p : Port) (state : LinkState) : State :=
  let s1 := s.modLink p fun l => l.lose state s.now
  let s2 := s1.modTransmit p TransmitUnit.clearForLinkLoss
  if s2.inSession p then s2.startTeardown p .linkLost else s2

end Sys2Proof.Machine
end

