-- ==== Sys2Proof/Machine/Link.lean ====
section
/-! DEFINITION. Link Units (Chapter 8): entry into UP, inbound sequencing, acknowledgements, the replay buffer and
timer; and the hold of the Transmit Unit (7.3). -/

namespace Sys2Proof.Machine

/-- Entry into UP (R161). -/
def LinkUnit.enterUp (l : LinkUnit) : LinkUnit :=
  { l with
    state := .up
    helloTimer := none
    helloPending := false
    expected := 0
    nakFlag := false
    pendingAck := some 255
    pendingNak := none
    nextOut := 0
    replay := []
    retransmit := none
    replayTimer := none
    timeouts := 0 }

/-! ### Inbound sequencing (R165 to R168) -/

/-- The classes of R165. -/
inductive SeqClass where
  | inSequence | duplicate | outOfSequence
  deriving DecidableEq, Repr

/-- The class of a sequence number against the expected one (R165): equal; one of the 127 before it; any other. -/
def seqClass (expected seq : Byte) : SeqClass :=
  if seq = expected then .inSequence
  else if (expected - seq).toNat ≤ 127 then .duplicate
  else .outOfSequence

/-- A frame was taken (R166): the expected sequence advances, the NAK flag clears, its number is acknowledged. -/
def LinkUnit.taken (l : LinkUnit) (seq : Byte) : LinkUnit :=
  { l with expected := seq + 1, nakFlag := false, pendingAck := some seq }

/-- A duplicate (R167): one before the expected sequence is acknowledged again. -/
def LinkUnit.duplicate (l : LinkUnit) : LinkUnit :=
  { l with pendingAck := some (l.expected - 1) }

/-- A frame out of sequence, or not taken (R166, R167): one LINK_NAK for each gap. -/
def LinkUnit.outOfSequence (l : LinkUnit) : LinkUnit :=
  if l.nakFlag then l else { l with pendingNak := some l.expected, nakFlag := true }

/-- A frame in sequence is offered to the Request Unit (R166). `offer` is what that does with it: the state after it took
the frame, or none when it does not take it (R78). -/
def State.offerInSequence (s : State) (p : Port) (seq : Byte) (offer : State → Option State) :
    State :=
  match offer s with
  | some t => t.modLink p fun l => l.taken seq
  | none => s.modLink p LinkUnit.outOfSequence

/-- A good sequenced frame in UP (R165 to R167). -/
def State.sequencedInUp (s : State) (p : Port) (seq : Byte) (offer : State → Option State) :
    State :=
  match seqClass (s.port p).link.expected seq with
  | .inSequence => s.offerInSequence p seq offer
  | .duplicate => s.modLink p LinkUnit.duplicate
  | .outOfSequence => s.modLink p LinkUnit.outOfSequence

/-- The sequenced frame that brought the link UP (R160): it is offered if it carries 0, and every other number, one of
the 127 before 0 too, is out of sequence. -/
def State.sequencedIntoUp (s : State) (p : Port) (seq : Byte) (offer : State → Option State) :
    State :=
  if seq = 0 then s.offerInSequence p seq offer else s.modLink p LinkUnit.outOfSequence

/-- A good sequenced frame in any link state (R158, R159, R160, R164): in ANSWERING it brings the link UP first. -/
def State.receiveSequenced (s : State) (p : Port) (seq : Byte) (offer : State → Option State) :
    State :=
  match (s.port p).link.state with
  | .offline => s
  | .aligning => s
  | .answering => (s.modLink p LinkUnit.enterUp).sequencedIntoUp p seq offer
  | .up => s.sequencedInUp p seq offer

/-! ### Acknowledgements (R170 to R172) -/

/-- The buffered frames after the one with this number; the frame and all older ones are freed (R170). -/
def freeThrough (seq : Byte) : List LinkFrame → List LinkFrame
  | [] => []
  | f :: fs => if f.seq = seq then fs else freeThrough seq fs

/-- The buffered frames from the one with this number on; all older ones are freed (R171). -/
def freeBefore (seq : Byte) : List LinkFrame → List LinkFrame
  | [] => []
  | f :: fs => if f.seq = seq then f :: fs else freeBefore seq fs

/-- A frame with this number is in the buffer. -/
def LinkUnit.buffered (l : LinkUnit) (seq : Byte) : Bool :=
  l.replay.any fun f => f.seq == seq

/-- The retransmission position after frames were freed (R170): unchanged while its frame remains; otherwise the
oldest remaining frame, or none when none remains. -/
def positionAfter (position : Option Byte) (rest : List LinkFrame) : Option Byte :=
  match position with
  | none => none
  | some q =>
    if rest.any fun f => f.seq == q then some q
    else
      match rest with
      | f :: _ => some f.seq
      | [] => none

/-- Frames are freed (R170, R172): the buffer is now `rest`; if that frees a frame, the timer restarts, or stops on
an empty buffer, and the timeout count becomes 0. `timeout` is the replay timeout in ticks. -/
def LinkUnit.free (l : LinkUnit) (rest : List LinkFrame) (now timeout : Nat) : LinkUnit :=
  let l1 := { l with replay := rest, retransmit := positionAfter l.retransmit rest }
  if rest.length < l.replay.length then
    { l1 with replayTimer := if rest = [] then none else some (now + timeout), timeouts := 0 }
  else l1

/-- A good LINK_ACK in UP (R170). -/
def LinkUnit.acknowledge (l : LinkUnit) (value : Byte) (now timeout : Nat) : LinkUnit :=
  if l.buffered value then l.free (freeThrough value l.replay) now timeout else l

/-- A good LINK_NAK in UP (R171). -/
def LinkUnit.negative (l : LinkUnit) (value : Byte) (now timeout : Nat) : LinkUnit :=
  if l.buffered value then
    { l.free (freeBefore value l.replay) now timeout with retransmit := some value }
  else if value = l.nextOut then { l.free [] now timeout with retransmit := none }
  else l

/-! ### The replay timer (R172, R173) -/

/-- A frame handed over by the Transmit Unit enters the replay buffer (R170, R172). -/
def LinkUnit.keep (l : LinkUnit) (f : LinkFrame) (now timeout : Nat) : LinkUnit :=
  { l with
    replay := l.replay ++ [f]
    nextOut := l.nextOut + 1
    replayTimer := if l.replay = [] then some (now + timeout) else l.replayTimer }

/-- A replay timer expiry below the fourth (R173). -/
def LinkUnit.timeout (l : LinkUnit) (now timeout : Nat) : LinkUnit :=
  { l with
    timeouts := l.timeouts + 1
    retransmit := (l.replay.head?).map LinkFrame.seq
    replayTimer := some (now + timeout) }

/-- The next buffered frame after the one with this number (R175). -/
def nextBuffered (seq : Byte) (replay : List LinkFrame) : Option Byte :=
  ((freeThrough seq replay).head?).map LinkFrame.seq

/-- No link-control frame is pending (R136, precedence 1; R169). -/
def LinkUnit.noControlPending (l : LinkUnit) : Bool :=
  !l.helloPending && l.pendingNak.isNone && l.pendingAck.isNone

/-! ### The hold (R143, R144) -/

/-- The hold bit of a good LINK_ACK reaches the Transmit Unit (R143, R144). `limit` is the hold limit in ticks. When the
hold ends, overdue sent keeps its value until the next hold begins: the model's choice (log entry 25). -/
def TransmitUnit.setHold (t : TransmitUnit) (bit : Bool) (now limit : Nat) : TransmitUnit :=
  match t.hold, bit with
  | false, true => { t with hold := true, holdTimer := some (now + limit), overdueSent := false }
  | true, false => { t with hold := false, holdTimer := none }
  | true, true => t
  | false, false => t

/-- A good LINK_ACK in UP: the outbound rules and the hold bit (R164, R170, R143). -/
def State.ackInUp (s : State) (p : Port) (value : Byte) (hold : Bool) : State :=
  (s.modLink p fun l => l.acknowledge value s.now (ticks s.replayTimeout)).modTransmit p fun t =>
    t.setHold hold s.now (ticks s.holdLimit)

/-- A good LINK_NAK in UP (R171). -/
def State.nakInUp (s : State) (p : Port) (value : Byte) : State :=
  s.modLink p fun l => l.negative value s.now (ticks s.replayTimeout)

end Sys2Proof.Machine
end

