-- ==== Sys2Proof/Machine/Transmit.lean ====
section
/-! DEFINITION. Transmit Units (Chapter 7): the choice of the next new sequenced frame, its frame, and the hand-over
to the Link Unit. -/

namespace Sys2Proof.Machine

/-- Where a new sequenced frame comes from (R137). -/
inductive Source where
  | reply (entry : Entry)
  | refusal (record : RefusalRecord)
  | notice (notice : Notice)
  deriving DecidableEq, Repr

/-- The head of a class queue (R137). -/
def RequestUnit.head (r : RequestUnit) (c : ReqClass) : Option Entry :=
  (r.queue c).head?

/-- The head of a class queue, if it is DONE. -/
def RequestUnit.doneHead (r : RequestUnit) (c : ReqClass) : Option Entry :=
  match r.head c with
  | some e => if e.state = .done then some e else none
  | none => none

/-- The Expedited reply that is ready (R139). -/
def PortState.expeditedReady (q : PortState) : Option Entry :=
  q.requests.doneHead .expedited

/-- The Ordinary reply that is ready: the head is DONE and the hold is clear (R139, R143). -/
def PortState.ordinaryReady (q : PortState) : Option Entry :=
  if q.transmit.hold then none else q.requests.doneHead .ordinary

/-- The burst turn is due and has an Ordinary reply to send (R137, step 1; R142). -/
def PortState.burstTurn (q : PortState) : Option Entry :=
  if q.requests.burstLimit ≤ q.transmit.burst then q.ordinaryReady else none

/-- The first source with a frame ready (R137). -/
def PortState.source (q : PortState) : Option Source :=
  match q.burstTurn, q.transmit.refusals, q.transmit.notices, q.expeditedReady, q.ordinaryReady with
  | some e, _, _, _, _ => some (.reply e)
  | none, r :: _, _, _, _ => some (.refusal r)
  | none, [], n :: _, _, _ => some (.notice n)
  | none, [], [], some e, _ => some (.reply e)
  | none, [], [], none, some e => some (.reply e)
  | none, [], [], none, none => none

/-- The conditions of precedence 3, with no frame of precedence 1 or 2 to go first (R136). -/
def LinkUnit.canTakeNew (l : LinkUnit) : Bool :=
  l.state == .up && l.retransmit.isNone && decide (l.replay.length < Config.replayPlaces) &&
    l.noControlPending

/-- The payload of a REPLY (R140, R204): read data for a READ answered OK, otherwise the recorded payload. -/
def Entry.replyBytes (e : Entry) : List Byte :=
  match e.readData, e.payload with
  | some data, _ => data
  | none, some payload => payload.bytes
  | none, none => []

/-- The result of an entry; every DONE entry has one (R89). -/
def Entry.resultCode (e : Entry) : ResultCode :=
  e.result.getD .ok

/-- The frame of a source with the sequence number it is given (R140, R147, R152, R201, R204, R205). -/
def Source.frame (x : Source) (seq : Byte) (lost : Nat) : LinkFrame :=
  match x with
  | .reply e =>
    { kind := replyCode, seq := seq, flags := e.cls.flags, mark := e.mark, byte6 := e.number,
      byte7 := e.resultCode.code, payload := if e.resultCode = .ok then e.replyBytes else [] }
  | .refusal r =>
    { kind := refusalCode, seq := seq, flags := r.cls.flags, mark := r.mark, byte6 := r.seq,
      byte7 := r.reason.code, payload := [] }
  | .notice n =>
    { kind := noticeCode, seq := seq, flags := 0, mark := BitVec.ofNat 8 lost, byte6 := 0,
      byte7 := n.code, payload := n.bytes }

/-- The burst count when a REPLY of a class is handed over (R142); `ready` says whether an Ordinary reply stands
ready at that moment. -/
def burstAfter (burst : Nat) (cls : ReqClass) (ready : Bool) : Nat :=
  match cls with
  | .expedited => if ready then burst + 1 else burst
  | .ordinary => 0

/-- The source gives the frame up (R138): the entry leaves the head of its queue, the refusal or notice leaves its
queue, and a departing notice takes the lost-notice count with it. -/
def PortState.giveUp (q : PortState) : Source → PortState
  | .reply e =>
    { q with
      requests := { q.requests with entries := removeFirst (fun x => x.cls == e.cls) q.requests.entries }
      transmit :=
        { q.transmit with
          burst := burstAfter q.transmit.burst e.cls q.ordinaryReady.isSome } }
  | .refusal _ => { q with transmit := { q.transmit with refusals := q.transmit.refusals.drop 1 } }
  | .notice _ =>
    { q with transmit := { q.transmit with notices := q.transmit.notices.drop 1, lost := 0 } }

/-- The hand-over of the frame of a source (R138, R170). -/
def State.handOver (s : State) (p : Port) (x : Source) : State :=
  let q := s.port p
  let f := x.frame q.link.nextOut q.transmit.lost
  ((s.modPort p fun q => q.giveUp x).modLink p fun l =>
    l.keep f s.now (ticks s.replayTimeout)).send p f

/-- The CLOSE reply has entered the replay buffer: teardown with cause CLOSED_BY_HOST (R141, R185, R186). -/
def State.afterReply (s : State) (p : Port) : Source → State
  | .reply e =>
    if e.kind = .closeSession ∧ (s.port p).session.state = .closing then
      s.startTeardown p .closedByHost
    else s
  | .refusal _ => s
  | .notice _ => s

/-- The choice and the hand-over of one new sequenced frame (R136 to R138). -/
def State.transmitNew (s : State) (p : Port) : State :=
  if (s.port p).link.canTakeNew then
    match (s.port p).source with
    | some x => (s.handOver p x).afterReply p x
    | none => s
  else s

/-- The link-control frame of a kind, with its flags and byte 6 (R200, R201). -/
def controlFrame (kind flags byte6 : Byte) : LinkFrame :=
  { kind := kind, seq := 0, flags := flags, mark := 0, byte6 := byte6, byte7 := 0, payload := [] }

end Sys2Proof.Machine
end

