-- ==== Sys2Proof/Machine/Requests.lean ====
section
/-! DEFINITION. Request Units (Chapter 4): the acceptance checks, refusals, the creation of an entry, and the arrival
of a request frame. -/

namespace Sys2Proof.Machine

/-- The class of a request frame. -/
def frameClass (f : RequestFrame) : ReqClass :=
  classOf f.flags

/-- Check 2 (R81). -/
def sessionRefusal (state : SessionState) (isOpen : Bool) : Option RefusalReason :=
  match state, isOpen with
  | .closed, true => none
  | .closed, false => some .notOpen
  | .opened, true => some .alreadyOpen
  | .opened, false => none
  | .closing, true => some .alreadyOpen
  | .closing, false => none
  | .teardown, true => some .notReady
  | .teardown, false => some .notOpen
  | .disabled, _ => some .portDisabled

/-- A translated WRITE needs more write lines than are free (R85). -/
def State.dataFull (s : State) (p : Port) (kind : RequestKind) (f : RequestFrame) : Bool :=
  if kind = .write then
    match s.translate p true (dataAddress f.payload) (dataLength f.payload) with
    | .ok t => decide ((s.port p).requests.freeLines < t.lineCount)
    | .error _ => false
  else false

/-- The class queue holds as many entries as its window allows (R84). -/
def State.windowFull (s : State) (p : Port) (c : ReqClass) : Bool :=
  decide (windowOf c ≤ ((s.port p).requests.queue c).length)

/-- Checks 2 to 6 of R79 on a well-formed frame. -/
def State.refusalAfterDecode (s : State) (p : Port) (kind : RequestKind) (f : RequestFrame) :
    Option RefusalReason :=
  match sessionRefusal (s.port p).session.state (kind == .openSession) with
  | some r => some r
  | none =>
    if (s.port p).session.state = .closing then some .closing
    else if frameClass f = .expedited ∧ eitherClass kind = false then some .classRefused
    else if s.windowFull p (frameClass f) then some .windowFull
    else if s.dataFull p kind f then some .dataFull
    else none

/-- The checks of R79 in their order: the reason of the first that fails. -/
def State.refusalOf (s : State) (p : Port) (kind : RequestKind) (f : RequestFrame) :
    Option RefusalReason :=
  if wellFormedRequest kind f then s.refusalAfterDecode p kind f else some .malformed

/-- A refusal joins the refusal queue if it has room; otherwise the frame is not taken (R78, R86, R147, R148). -/
def State.refuse (s : State) (p : Port) (f : RequestFrame) (reason : RefusalReason) : Option State :=
  if (s.port p).transmit.refusals.length < Config.refusalPlaces then
    some (s.modTransmit p fun t =>
      { t with
        refusals :=
          t.refusals ++ [{ reason := reason, seq := f.seq, mark := f.mark, cls := frameClass f }] })
  else none

/-- The Request Unit is offered a frame of a known kind (R78): `accept` is what its acceptance does. -/
def State.offerRequest (s : State) (p : Port) (kind : RequestKind) (f : RequestFrame)
    (accept : State → State) : Option State :=
  match s.refusalOf p kind f with
  | none => some (accept s)
  | some reason => s.refuse p f reason

/-- A request frame of a known kind arrives on a port's link (R164 to R167, R78). -/
def State.requestArrives (s : State) (p : Port) (kind : RequestKind) (f : RequestFrame)
    (accept : State → State) : State :=
  s.receiveSequenced p f.seq fun t => t.offerRequest p kind f accept

/-! ### Entries (R87 to R93) -/

/-- The entry of an accepted request before its outcome is known: kind, class, number and mark (R87 to R89). -/
def State.newEntry (s : State) (p : Port) (kind : RequestKind) (f : RequestFrame) : Entry :=
  { kind := kind, cls := frameClass f, number := (s.port p).requests.nextNumber (frameClass f),
    mark := f.mark, state := .waiting, result := none, translation := none, writeData := none,
    readData := none, payload := none }

/-- The entry joins the tail of its class queue and its number is used up (R87, R90); then the Request Unit looks
for an entry to present (R106). -/
def State.enqueue (s : State) (p : Port) (e : Entry) : State :=
  (s.modRequests p fun r => { r.advance e.cls with entries := r.entries ++ [e] }).present p

/-- What a request that acts at acceptance leaves: the state it acted on, its result and its reply payload (R93). -/
structure Answer where
  state : State
  result : ResultCode
  payload : Option ReplyPayload

/-- An OK answer. -/
def Answer.ok (s : State) (payload : ReplyPayload) : Answer :=
  { state := s, result := .ok, payload := some payload }

/-- An answer that failed a check: nothing changed, no payload (R140). -/
def Answer.failed (s : State) (result : ResultCode) : Answer :=
  { state := s, result := result, payload := none }

/-- The acceptance of a request that acts at acceptance: it acts, and its entry is DONE (R91, R93). -/
def State.acceptDone (s : State) (p : Port) (kind : RequestKind) (f : RequestFrame)
    (act : State → Answer) : State :=
  let a := act s
  a.state.enqueue p
    { a.state.newEntry p kind f with state := .done, result := some a.result, payload := a.payload }

/-- The acceptance of a FENCE, and of a CLOSE as one: DONE at once when every older entry is DONE, otherwise PENDING
(R91, R112, R113). -/
def State.acceptBarrier (s : State) (p : Port) (kind : RequestKind) (f : RequestFrame) : State :=
  let e := s.newEntry p kind f
  if (s.port p).requests.entries.all fun o => o.state == .done then
    s.enqueue p { e with state := .done, result := some .ok }
  else s.enqueue p e

/-- An administrative request: a port that does not hold the role is answered NOT_ADMIN (R193). -/
def State.administrative (s : State) (p : Port) (act : State → Answer) : Answer :=
  if s.isAdmin p then act s else .failed s .notAdmin

end Sys2Proof.Machine
end

