-- ==== Sys2Proof/Machine/AdminCommands.lean ====
section
/-! DEFINITION. CLAIM_ADMIN, HAND_ADMIN, SET_QUOTA, SET_WEIGHT, SET_LIMIT, DISABLE_PORT, ENABLE_PORT, EVICT_PORT. -/

namespace Sys2Proof.Machine

/-- The role becomes HELD by a port, with its ADMIN_CHANGED notices (R183, R193). -/
def State.giveRole (s : State) (p : Port) : State :=
  ({ s with role := .held p }).raiseAdminChanged (some p)

/-- What CLAIM_ADMIN does (R194). -/
def State.claimAdmin (s : State) (p : Port) : Answer :=
  match s.role with
  | .vacant => .ok (s.giveRole p) (.holder p)
  | .held q => if q = p then .ok s (.holder p) else .failed s .adminHeld
  | .reserved _ => .failed s .adminHeld

/-- CLAIM_ADMIN (R194). -/
def execClaimAdmin (p : Port) (f : RequestFrame) (s : State) : Answered :=
  whenRunning s <| s.requestArrives p .claimAdmin f fun t =>
    t.acceptDone p .claimAdmin f fun u => u.claimAdmin p

/-- What HAND_ADMIN does after the administrator check (R195). -/
def State.handAdmin (s : State) (p : Port) (payload : List Byte) : Answer :=
  match portOf (field payload 0 1) with
  | none => .failed s .badValue
  | some q =>
    if q = p then .failed s .self
    else if (s.port q).session.state = .opened then .ok (s.giveRole q) (.holder q)
    else .failed s .portClosed

/-- HAND_ADMIN (R195). -/
def execHandAdmin (p : Port) (f : RequestFrame) (s : State) : Answered :=
  whenRunning s <| s.requestArrives p .handAdmin f fun t =>
    t.acceptDone p .handAdmin f fun u => u.administrative p fun v => v.handAdmin p f.payload

/-- What SET_QUOTA does after the administrator check (R39). -/
def State.setQuota (s : State) (payload : List Byte) : Answer :=
  let quota := field payload 1 2
  match portOf (field payload 0 1) with
  | none => .failed s .badValue
  | some q =>
    if Config.pageCount < quota then .failed s .badValue
    else if quota < s.mappedCount q then .failed s .quotaInUse
    else
      .ok (s.modAperture q fun a => { a with quota := quota })
        (.quotaSet q quota (s.mappedCount q))

/-- SET_QUOTA (R39). -/
def execSetQuota (p : Port) (f : RequestFrame) (s : State) : Answered :=
  whenRunning s <| s.requestArrives p .setQuota f fun t =>
    t.acceptDone p .setQuota f fun u => u.administrative p fun v => v.setQuota f.payload

/-- What SET_WEIGHT does after the administrator check (R126). -/
def State.setWeight (s : State) (payload : List Byte) : Answer :=
  let participant := field payload 0 1
  let weight := field payload 1 1
  if h : participant < 5 ∧ 1 ≤ weight ∧ weight ≤ 64 then
    .ok
      { s with
        scheduler :=
          { s.scheduler with weights := s.scheduler.weights.set participant weight h.1 } }
      (.weightSet participant weight (s.scheduler.weights[participant]'h.1))
  else .failed s .badValue

/-- SET_WEIGHT (R126). -/
def execSetWeight (p : Port) (f : RequestFrame) (s : State) : Answered :=
  whenRunning s <| s.requestArrives p .setWeight f fun t =>
    t.acceptDone p .setWeight f fun u => u.administrative p fun v => v.setWeight f.payload

/-- The value of a SET_LIMIT (10.4). -/
def limitValue (payload : List Byte) : Nat :=
  field payload 1 2

/-- SET_LIMIT OFFER_LIFE after the administrator check (R59, R196). -/
def State.setOfferLife (s : State) (value : Nat) : Answer :=
  if 1 ≤ value ∧ value ≤ 1000 then
    .ok (s.modShare fun u => { u with lifetime := value })
      (.limitSet .offerLife value s.share.lifetime)
  else .failed s .badValue

/-- SET_LIMIT with selector OFFER_LIFE (R59, R196). -/
def execSetLimitOfferLife (p : Port) (f : RequestFrame) (s : State) : Answered :=
  whenRunning s <| s.requestArrives p .setLimit f fun t =>
    t.acceptDone p .setLimit f fun u => u.administrative p fun v => v.setOfferLife (limitValue f.payload)

/-- SET_LIMIT HOLD_LIMIT after the administrator check (R145, R196). -/
def State.setHoldLimit (s : State) (value : Nat) : Answer :=
  if 1 ≤ value ∧ value ≤ 1000 then
    .ok { s with holdLimit := value } (.limitSet .holdLimit value s.holdLimit)
  else .failed s .badValue

/-- SET_LIMIT with selector HOLD_LIMIT (R145, R196). -/
def execSetLimitHoldLimit (p : Port) (f : RequestFrame) (s : State) : Answered :=
  whenRunning s <| s.requestArrives p .setLimit f fun t =>
    t.acceptDone p .setLimit f fun u => u.administrative p fun v => v.setHoldLimit (limitValue f.payload)

/-- SET_LIMIT ERROR_LIMIT after the administrator check (R23, R196). -/
def State.setErrorLimit (s : State) (value : Nat) : Answer :=
  if value ≤ 255 then
    .ok (s.modPool fun q => { q with errorThreshold := value })
      (.limitSet .errorLimit value s.pool.errorThreshold)
  else .failed s .badValue

/-- SET_LIMIT with selector ERROR_LIMIT (R23, R196). -/
def execSetLimitErrorLimit (p : Port) (f : RequestFrame) (s : State) : Answered :=
  whenRunning s <| s.requestArrives p .setLimit f fun t =>
    t.acceptDone p .setLimit f fun u => u.administrative p fun v => v.setErrorLimit (limitValue f.payload)

/-- SET_LIMIT REPLAY_TIMEOUT after the administrator check (R174, R196). -/
def State.setReplayTimeout (s : State) (value : Nat) : Answer :=
  if 1 ≤ value ∧ value ≤ 100 then
    .ok { s with replayTimeout := value } (.limitSet .replayTimeout value s.replayTimeout)
  else .failed s .badValue

/-- SET_LIMIT with selector REPLAY_TIMEOUT (R174, R196). -/
def execSetLimitReplayTimeout (p : Port) (f : RequestFrame) (s : State) : Answered :=
  whenRunning s <| s.requestArrives p .setLimit f fun t =>
    t.acceptDone p .setLimit f fun u => u.administrative p fun v => v.setReplayTimeout (limitValue f.payload)

/-- The port and its session state as the request left it (R190, R192). -/
def State.portAnswer (s : State) (q : Port) : Answer :=
  .ok s (.portState q (s.port q).session.state)

/-- What DISABLE_PORT does to the named port (R190). -/
def State.disable (s : State) (q : Port) : State :=
  match (s.port q).session.state with
  | .opened | .closing => s.startTeardown q .disabled
  | .teardown => s.modSession q fun c => { c with disablePending := true }
  | .closed =>
    (s.modSession q fun c => { c with state := .disabled }).raisePortState q .disabled
      (.ended .disabled)
  | .disabled => s

/-- What DISABLE_PORT does after the administrator check (R190). -/
def State.disablePort (s : State) (p : Port) (payload : List Byte) : Answer :=
  match portOf (field payload 0 1) with
  | none => .failed s .badValue
  | some q => if q = p then .failed s .self else (s.disable q).portAnswer q

/-- DISABLE_PORT (R190). -/
def execDisablePort (p : Port) (f : RequestFrame) (s : State) : Answered :=
  whenRunning s <| s.requestArrives p .disablePort f fun t =>
    t.acceptDone p .disablePort f fun u => u.administrative p fun v => v.disablePort p f.payload

/-- What ENABLE_PORT does after the administrator check (R191). -/
def State.enablePort (s : State) (payload : List Byte) : Answer :=
  match portOf (field payload 0 1) with
  | none => .failed s .badValue
  | some q =>
    if (s.port q).session.state = .disabled then
      ((s.modSession q fun c => { c with state := .closed }).raisePortState q .closed
        .enabled).portAnswer q
    else .failed s .badValue

/-- ENABLE_PORT (R191). -/
def execEnablePort (p : Port) (f : RequestFrame) (s : State) : Answered :=
  whenRunning s <| s.requestArrives p .enablePort f fun t =>
    t.acceptDone p .enablePort f fun u => u.administrative p fun v => v.enablePort f.payload

/-- What EVICT_PORT does after the administrator check (R192). -/
def State.evictPort (s : State) (p : Port) (payload : List Byte) : Answer :=
  match portOf (field payload 0 1) with
  | none => .failed s .badValue
  | some q =>
    if q = p then .failed s .self
    else if s.inSession q then (s.startTeardown q .evicted).portAnswer q
    else .failed s .portClosed

/-- EVICT_PORT (R192). -/
def execEvictPort (p : Port) (f : RequestFrame) (s : State) : Answered :=
  whenRunning s <| s.requestArrives p .evictPort f fun t =>
    t.acceptDone p .evictPort f fun u => u.administrative p fun v => v.evictPort p f.payload

end Sys2Proof.Machine
end

