-- ==== Sys2Proof/Machine/DataCommands.lean ====
section
/-! DEFINITION. READ, WRITE and FENCE. -/

namespace Sys2Proof.Machine

/-- The acceptance of a READ (R48, R49, R91): DONE at once with the fault, or PENDING with its translation and a pin
on its frame. -/
def State.acceptRead (s : State) (p : Port) (f : RequestFrame) : State :=
  let e := s.newEntry p .read f
  match s.translate p false (dataAddress f.payload) (dataLength f.payload) with
  | .error result => s.enqueue p { e with state := .done, result := some result }
  | .ok t => (s.pin t.frame).enqueue p { e with translation := some t }

/-- READ (R48). -/
def execRead (p : Port) (f : RequestFrame) (s : State) : Answered :=
  whenRunning s <| s.requestArrives p .read f fun t => t.acceptRead p f

/-- The data bytes of a WRITE (10.4). -/
def writeBytes (payload : List Byte) : List Byte :=
  payload.drop 6

/-- The acceptance of a WRITE (R48, R49, R91, R94): DONE at once with the fault, or PENDING with its translation, its
write lines and a pin on its frame. -/
def State.acceptWrite (s : State) (p : Port) (f : RequestFrame) : State :=
  let e := s.newEntry p .write f
  match s.translate p true (dataAddress f.payload) (dataLength f.payload) with
  | .error result => s.enqueue p { e with state := .done, result := some result }
  | .ok t =>
    ((s.pin t.frame).modRequests p fun r =>
      { r with reservedLines := r.reservedLines + t.lineCount }).enqueue p
        { e with translation := some t, writeData := some (writeBytes f.payload) }

/-- WRITE (R49). -/
def execWrite (p : Port) (f : RequestFrame) (s : State) : Answered :=
  whenRunning s <| s.requestArrives p .write f fun t => t.acceptWrite p f

/-- FENCE (R112). -/
def execFence (p : Port) (f : RequestFrame) (s : State) : Answered :=
  whenRunning s <| s.requestArrives p .fence f fun t => t.acceptBarrier p .fence f

end Sys2Proof.Machine
end

