-- ==== Sys2Proof/Machine/LinkCommands.lean ====
section
/-! DEFINITION. The link events: receiver lock, damaged frames, link-control frames, frames of unknown kind. -/

namespace Sys2Proof.Machine

/-- RECEIVER_LOCK_GAINED (R158, R159): OFFLINE becomes ALIGNING; in another state lock is already held (log entry 5). A
lock gained while RESET# is low is not remembered, and one held at the release is a command after RESET_RELEASE (R179):
the model's choice (log entry 26). -/
def execReceiverLockGained (p : Port) (s : State) : Answered :=
  whenRunning s <|
    match (s.port p).link.state with
    | .offline => s.modLink p fun l => l.startHello .aligning s.now
    | .aligning | .answering | .up => s

/-- RECEIVER_LOCK_LOST (R158): OFFLINE; in UP this is link loss. -/
def execReceiverLockLost (p : Port) (s : State) : Answered :=
  whenRunning s <|
    match (s.port p).link.state with
    | .up => s.loseLink p .offline
    | .aligning | .answering => s.modLink p fun l => l.startHello .offline s.now
    | .offline => s

/-- One more frame that failed the frame check, saturating at 65535 (R163). -/
def LinkUnit.countDamaged (l : LinkUnit) : LinkUnit :=
  { l with checkErrors := min 65535 (l.checkErrors + 1) }

/-- DAMAGED_FRAME (R163): bytes that fail the check are discarded and counted; while OFFLINE no frame is received
(R158). Bytes that pass the check are no damaged frame, and no such event occurs with them (log entry 19). -/
def execDamagedFrame (p : Port) (bytes : List Byte) (s : State) : Answered :=
  whenRunning s <|
    if frameCheck bytes then s
    else
      match (s.port p).link.state with
      | .offline => s
      | .aligning | .answering | .up => s.modLink p LinkUnit.countDamaged

/-- LINK_HELLO (R159, R160, R162). -/
def execLinkHello (p : Port) (seen : Bool) (s : State) : Answered :=
  whenRunning s <|
    match (s.port p).link.state with
    | .offline => s
    | .aligning => s.modLink p fun l => l.startHello .answering s.now
    | .answering => if seen then s.modLink p LinkUnit.enterUp else s
    | .up => if seen then s.modLink p LinkUnit.duplicate else s.loseLink p .answering

/-- LINK_ACK (R170, R143); in ANSWERING it brings the link UP first (R160). -/
def execLinkAck (p : Port) (value : Byte) (hold : Bool) (s : State) : Answered :=
  whenRunning s <|
    match (s.port p).link.state with
    | .offline | .aligning => s
    | .answering => (s.modLink p LinkUnit.enterUp).ackInUp p value hold
    | .up => s.ackInUp p value hold

/-- LINK_NAK (R171); in ANSWERING it brings the link UP first (R160). -/
def execLinkNak (p : Port) (value : Byte) (s : State) : Answered :=
  whenRunning s <|
    match (s.port p).link.state with
    | .offline | .aligning => s
    | .answering => (s.modLink p LinkUnit.enterUp).nakInUp p value
    | .up => s.nakInUp p value

/-- UNKNOWN_REQUEST_KIND (R164, R202): sequenced like any request frame, and refused MALFORMED when in sequence. -/
def execUnknownRequestKind (p : Port) (_kind : Byte) (f : RequestFrame) (s : State) : Answered :=
  whenRunning s (s.receiveSequenced p f.seq fun t => t.refuse p f .malformed)

end Sys2Proof.Machine
end

