-- ==== Sys2Proof/Machine/MappingCommands.lean ====
section
/-! DEFINITION. ALLOC, RELEASE, OFFER, ACCEPT, DECLINE and WITHDRAW. -/

namespace Sys2Proof.Machine

/-- `count` consecutive pages from `page`, in ascending order. -/
def pagesFrom (page count : Nat) : List Nat :=
  (List.range count).map fun i => page + i

/-- What ALLOC does (R40, R41). -/
def State.alloc (s : State) (p : Port) (payload : List Byte) : Answer :=
  let page := firstPage payload
  let count := pageTotal payload
  if Config.pageCount < page + count then .failed s .bounds
  else if (pagesFrom page count).any fun g => (s.slotAt p g).isSome then .failed s .pageInUse
  else if (s.port p).aperture.quota < s.mappedCount p + count then .failed s .quota
  else if s.pool.freeList.length < count then .failed s .noFrames
  else
    let frames := s.pool.freeList.take count
    .ok ((s.take p count).mapFrames p page frames) (.allocated page count frames)

/-- ALLOC (R40). -/
def execAlloc (p : Port) (f : RequestFrame) (s : State) : Answered :=
  whenRunning s <| s.requestArrives p .alloc f fun t =>
    t.acceptDone p .alloc f fun u => u.alloc p f.payload

/-- What RELEASE does (R43, R44). -/
def State.release (s : State) (p : Port) (payload : List Byte) : Answer :=
  let page := firstPage payload
  let count := pageTotal payload
  if Config.pageCount < page + count then .failed s .bounds
  else if (pagesFrom page count).any fun g => (s.slotAt p g).isNone then .failed s .notMapped
  else .ok (s.releasePages p (pagesFrom page count)) (.released page count)

/-- RELEASE (R43). -/
def execRelease (p : Port) (f : RequestFrame) (s : State) : Answered :=
  whenRunning s <| s.requestArrives p .release f fun t =>
    t.acceptDone p .release f fun u => u.release p f.payload

/-- The record of a new offer (R58, R59, R61). -/
def State.newOffer (s : State) (p target : Port) (page frame : Nat) (rights : Rights) : Offer :=
  { number := s.share.freeNumber, offering := p, page := page, frame := frame, target := target,
    rights := rights, deadline := s.now + ticks s.share.lifetime }

/-- Creates the record at the end of the table, moves the counter on and tells the target (R58, R61). -/
def State.createOffer (s : State) (o : Offer) : State :=
  (s.modShare fun u =>
    { u with offers := u.offers ++ [o], nextNumber := nextOfferNumber o.number }).raiseNotice
      o.target (.offerReceived o.number o.offering o.rights)

/-- Checks 4 to 9 of OFFER and its effect (R60, R61); `m` is the mapping record of the page. -/
def State.offerMapping (s : State) (p target : Port) (page : Nat) (rights : Rights) (m : Mapping) :
    Answer :=
  if rights = .rw ∧ m.rights ≠ .rw then .failed s .rights
  else if (s.port target).session.state ≠ .opened then .failed s .portClosed
  else if s.maps target m.frame then .failed s .alreadyMapped
  else if s.share.offers.any fun o => o.frame == m.frame && o.target == target then
    .failed s .offerPending
  else if Config.offerPlaces ≤ s.share.offers.length then .failed s .offersFull
  else
    let o := s.newOffer p target page m.frame rights
    .ok (s.createOffer o) (.offered o.number page target rights s.share.lifetime)

/-- What OFFER does (R60, R61). -/
def State.offer (s : State) (p : Port) (payload : List Byte) : Answer :=
  let page := field payload 0 2
  if Config.pageCount ≤ page then .failed s .bounds
  else
    match portOf (field payload 2 1), rightsOf (field payload 3 1) with
    | some target, some rights =>
      if target = p then .failed s .self
      else
        match s.slotAt p page with
        | some m => s.offerMapping p target page rights m
        | none => .failed s .notMapped
    | none, _ => .failed s .badValue
    | some _, none => .failed s .badValue

/-- OFFER (R60). -/
def execOffer (p : Port) (f : RequestFrame) (s : State) : Answered :=
  whenRunning s <| s.requestArrives p .offer f fun t =>
    t.acceptDone p .offer f fun u => u.offer p f.payload

/-- What ACCEPT does (R62, R63). -/
def State.acceptOffer (s : State) (p : Port) (payload : List Byte) : Answer :=
  let number := byteAt payload 0
  let page := field payload 1 2
  match s.offerTo number p with
  | none => .failed s .noOffer
  | some o =>
    if Config.pageCount ≤ page then .failed s .bounds
    else if (s.slotAt p page).isSome then .failed s .pageInUse
    else if (s.port p).aperture.quota < s.mappedCount p + 1 then .failed s .quota
    else
      .ok
        (((s.removeOffer number).mapAccepted p page o).raiseNotice o.offering
          (.offerTaken number page))
        (.accepted number page o.frame o.rights)

/-- ACCEPT (R62). -/
def execAccept (p : Port) (f : RequestFrame) (s : State) : Answered :=
  whenRunning s <| s.requestArrives p .accept f fun t =>
    t.acceptDone p .accept f fun u => u.acceptOffer p f.payload

/-- What DECLINE does (R64). -/
def State.declineOffer (s : State) (p : Port) (payload : List Byte) : Answer :=
  let number := byteAt payload 0
  match s.offerTo number p with
  | none => .failed s .noOffer
  | some o =>
    .ok ((s.removeOffer number).raiseNotice o.offering (.offerDeclined number .declined))
      (.offerNumber number)

/-- DECLINE (R64). -/
def execDecline (p : Port) (f : RequestFrame) (s : State) : Answered :=
  whenRunning s <| s.requestArrives p .decline f fun t =>
    t.acceptDone p .decline f fun u => u.declineOffer p f.payload

/-- What WITHDRAW does (R65). -/
def State.withdrawOffer (s : State) (p : Port) (payload : List Byte) : Answer :=
  let number := byteAt payload 0
  match s.offerBy number p with
  | none => .failed s .noOffer
  | some o =>
    .ok ((s.removeOffer number).raiseNotice o.target (.offerWithdrawn number .withdrawn))
      (.offerNumber number)

/-- WITHDRAW (R65). -/
def execWithdraw (p : Port) (f : RequestFrame) (s : State) : Answered :=
  whenRunning s <| s.requestArrives p .withdraw f fun t =>
    t.acceptDone p .withdraw f fun u => u.withdrawOffer p f.payload

end Sys2Proof.Machine
end

