-- ==== Sys2Proof/Machine/MemoryCommands.lean ====
section
/-! DEFINITION. The memory events: GRANT, and the completions of the three types of operation (Chapter 6). An
operation takes effect on the DRAM at its completion; since one operation is in flight at a time, that is the order
of the grants (R114; log entry 11). -/

namespace Sys2Proof.Machine

/-- GRANT (R123, R124): nothing happens while the channel is BUSY or nothing is presented (log entry 5). -/
def execGrant (s : State) : Answered :=
  whenRunning s s.takeGrant

/-! ### The port whose operation completed -/

/-- The translation of the port's entry IN_MEMORY. -/
def State.memoryTranslation (s : State) (p : Port) : Option Translation :=
  match (s.port p).requests.memoryEntry with
  | some e => e.translation
  | none => none

/-- The bytes that a READ_LINES operation of the port returns to its entry (R109, R127). -/
def State.bytesRead (s : State) (p : Port) (found : List LineReport) : List Byte :=
  match s.memoryTranslation p with
  | some t =>
    s.dram.readBytes s.freeIndex (dramLine t.frame t.firstLine) (dramAddress t.frame t.firstByte)
      t.length found
  | none => []

/-- The DRAM after a WRITE_LINES operation of the port (R110, R128). -/
def State.dramWritten (s : State) (p : Port) (o : Operation) (reports : List LineReport) : Dram :=
  match (s.port p).requests.memoryEntry with
  | some e =>
    match e.translation, e.writeData with
    | some t, some data =>
      s.dram.writeLines (dramAddress t.frame t.firstByte) data reports
        (dramLine o.frame o.firstLine) o.lineCount
    | none, _ => s.dram
    | some _, none => s.dram
  | none => s.dram

/-- The completion of a port's operation reaches its Request Unit: in TEARDOWN the entry is discarded, and the
teardown ends when no entry is left (R98, R188); otherwise the entry is changed, the barrier step is made and the
Request Unit looks for an entry to present (R109 to R111). -/
def State.requestCompleted (s : State) (p : Port) (g : Entry → Entry) : State :=
  if (s.port p).session.state = .teardown then
    (s.modRequests p fun r => { r with entries := removeFirst Entry.inMem r.entries }).endTeardownIfEmpty p
  else (s.modRequests p fun r => r.complete g).present p

/-- A READ_LINES completion for a port (R131, R20, R109): the channel is IDLE, the lines keep what was found in them
(R127), the error accounting comes before the unpin, and then the Request Unit is told. -/
def State.readCompleted (s : State) (p : Port) (o : Operation) (reports : List LineReport) : State :=
  let first := dramLine o.frame o.firstLine
  let found := s.dram.foundLines first o.lineCount reports
  let data := s.bytesRead p found
  let s1 :=
    { s with inFlight := none, freeIndex := s.freeIndex + 1, dram := s.dram.keepLines first found }
  ((s1.accountRead o.frame (classify found)).unpin o.frame).requestCompleted p fun e =>
    e.readDone (classify found) data

/-- READ_LINES_COMPLETION (R109, R131). Without a READ_LINES operation in flight there is none to complete (R130;
log entry 5). -/
def execReadLinesCompletion (reports : List LineReport) (s : State) : Answered :=
  whenRunning s <|
    match s.inFlight with
    | some o =>
      match o.participant, o.kind with
      | .port p, .readLines => s.readCompleted p o reports
      | .port _, .writeLines => s
      | .port _, .zeroLines => s
      | .scrubber, _ => s
    | none => s

/-- A WRITE_LINES completion for a port (R131, R20, R110): the bytes are in memory, the channel is IDLE, the frame is
unpinned, the write lines are freed and the entry is told. -/
def State.writeCompleted (s : State) (p : Port) (o : Operation) (reports : List LineReport) : State :=
  let s1 := { s with inFlight := none, dram := s.dramWritten p o reports }
  ((s1.unpin o.frame).modRequests p fun r => r.freeWriteLines o.lineCount).requestCompleted p
    Entry.writeDone

/-- WRITE_LINES_COMPLETION (R110, R131). Without a WRITE_LINES operation in flight there is none to complete (R130;
log entry 5). -/
def execWriteLinesCompletion (reports : List LineReport) (s : State) : Answered :=
  whenRunning s <|
    match s.inFlight with
    | some o =>
      match o.participant, o.kind with
      | .port p, .writeLines => s.writeCompleted p o reports
      | .port _, .readLines => s
      | .port _, .zeroLines => s
      | .scrubber, _ => s
    | none => s

/-- A ZERO_LINES completion (R129, R131, R13): the lines are zero, the channel is IDLE, and the Scrubber counts the
block or discards the completion. -/
def State.zeroCompleted (s : State) (o : Operation) : State :=
  { s with
    inFlight := none
    dram := s.dram.zeroLines (dramLine o.frame o.firstLine) o.lineCount }.modPool fun q =>
      q.scrubCompleted o.frame

/-- ZERO_LINES_COMPLETION (R13, R131). Without a ZERO_LINES operation in flight there is none to complete (R130; log
entry 5). -/
def execZeroLinesCompletion (s : State) : Answered :=
  whenRunning s <|
    match s.inFlight with
    | some o =>
      match o.participant, o.kind with
      | .scrubber, .zeroLines => s.zeroCompleted o
      | .scrubber, .readLines => s
      | .scrubber, .writeLines => s
      | .port _, _ => s
    | none => s

end Sys2Proof.Machine
end

