-- ==== Sys2Proof/Machine/QueryCommands.lean ====
section
/-! DEFINITION. QUERY_PORT, QUERY_PAGE, QUERY_POOL and QUERY_FRAME: each records a snapshot of the state as its
acceptance finds it (R93; log entry 14). -/

namespace Sys2Proof.Machine

/-- A query that names a port is administrative when that is not the asking port (R52, R197, R193). -/
def State.mayQuery (s : State) (p target : Port) : Bool :=
  target == p || s.isAdmin p

/-- The standing of a port (R197). -/
def State.portReport (s : State) (p : Port) : PortReport :=
  let q := s.port p
  { port := p
    session := q.session.state
    cause := q.session.cause
    disablePending := q.session.disablePending
    role := s.role
    link := q.link.state
    checkErrors := q.link.checkErrors
    quota := q.aperture.quota
    mapped := s.mappedCount p
    expeditedEntries := (q.requests.queue .expedited).length
    ordinaryEntries := (q.requests.queue .ordinary).length
    freeLines := q.requests.freeLines
    mode := q.requests.mode
    burstLimit := q.requests.burstLimit
    offersMade := (s.share.offers.filter fun o => o.offering == p).length
    offersReceived := (s.share.offers.filter fun o => o.target == p).length
    lifetime := s.share.lifetime
    holdLimit := s.holdLimit
    replayTimeout := s.replayTimeout }

/-- What QUERY_PORT does (R197). -/
def State.queryPort (s : State) (p : Port) (payload : List Byte) : Answer :=
  match portOf (field payload 0 1) with
  | none => .failed s .badValue
  | some target =>
    if s.mayQuery p target then .ok s (.portReport (s.portReport target)) else .failed s .notAdmin

/-- QUERY_PORT (R197). -/
def execQueryPort (p : Port) (f : RequestFrame) (s : State) : Answered :=
  whenRunning s <| s.requestArrives p .queryPort f fun t =>
    t.acceptDone p .queryPort f fun u => u.queryPort p f.payload

/-- The standing of a page (R53). -/
def State.pageReport (s : State) (p : Port) (page : Nat) : PageReport :=
  { port := p
    page := page
    mapped := s.mappedCount p
    quota := (s.port p).aperture.quota
    mapping := (s.slotAt p page).map fun m => (m, s.frame m.frame) }

/-- What QUERY_PAGE does (R52, R53). -/
def State.queryPage (s : State) (p : Port) (payload : List Byte) : Answer :=
  match portOf (field payload 0 1) with
  | none => .failed s .badValue
  | some target =>
    if s.mayQuery p target then
      .ok s (.pageReport (s.pageReport target (pageOf (field payload 1 4))))
    else .failed s .notAdmin

/-- QUERY_PAGE (R52). -/
def execQueryPage (p : Port) (f : RequestFrame) (s : State) : Answered :=
  whenRunning s <| s.requestArrives p .queryPage f fun t =>
    t.acceptDone p .queryPage f fun u => u.queryPage p f.payload

/-- A region record of QUERY_POOL (R32). -/
def State.regionReport (s : State) (k : Slot) : RegionReport :=
  let r := s.region k
  { slot := k, state := r.state, start := s.regionStart k, stop := s.regionStop k,
    uncorrectable := r.uncorrectable, corrected := r.corrected, retired := r.retired,
    cause := r.cause }

/-- The standing of the pool (R32); with no head the count of operations done is 0 (R204). -/
def State.poolReport (s : State) : PoolReport :=
  { freeLength := s.pool.freeList.length
    scrubLength := s.pool.scrubQueue.length
    head := s.pool.scrub.head
    done := if s.pool.scrub.head.isSome then s.pool.scrub.done else 0
    threshold := s.pool.errorThreshold
    regions := (allSlots.filter fun k => (s.region k).state != .empty).map s.regionReport }

/-- QUERY_POOL (R32). -/
def execQueryPool (p : Port) (f : RequestFrame) (s : State) : Answered :=
  whenRunning s <| s.requestArrives p .queryPool f fun t =>
    t.acceptDone p .queryPool f fun u => .ok u (.poolReport u.poolReport)

/-- The standing of a frame (R33). -/
def State.frameReport (s : State) (frame : Nat) : FrameReport :=
  { frame := frame
    record := s.frame frame
    slot := s.regionSlot frame
    scrubDone := if s.pool.scrub.head = some frame then some s.pool.scrub.done else none }

/-- What QUERY_FRAME does (R33). -/
def State.queryFrame (s : State) (p : Port) (payload : List Byte) : Answer :=
  s.administrative p fun t =>
    let frame := field payload 0 4
    if frame < Config.frameCount then .ok t (.frameReport (t.frameReport frame))
    else .failed t .badValue

/-- QUERY_FRAME (R33). -/
def execQueryFrame (p : Port) (f : RequestFrame) (s : State) : Answered :=
  whenRunning s <| s.requestArrives p .queryFrame f fun t =>
    t.acceptDone p .queryFrame f fun u => u.queryFrame p f.payload

end Sys2Proof.Machine
end

