-- ==== Sys2Proof/Machine/RegionCommands.lean ====
section
/-! DEFINITION. DEFINE_REGION, UNDEFINE_REGION, ONLINE_REGION and RETIRE_REGION (1.10). -/

namespace Sys2Proof.Machine

/-- What DEFINE_REGION does after the administrator check (R28). -/
def State.defineRegion (s : State) (payload : List Byte) : Answer :=
  let size := field payload 0 4
  if size % Config.regionUnit ≠ 0 ∨ size < Config.regionUnit ∨ Config.frameCount < size then
    .failed s .badValue
  else
    match s.lowestEmpty with
    | none => .failed s .regionState
    | some k =>
      let start := s.poolSize
      if Config.frameCount < start + size then .failed s .badValue
      else
        .ok
          (s.modRegion k fun _ =>
            { Region.emptySlot with state := .defined, stop := some (start + size) })
          (.defined k start (start + size))

/-- DEFINE_REGION (R28). -/
def execDefineRegion (p : Port) (f : RequestFrame) (s : State) : Answered :=
  whenRunning s <| s.requestArrives p .defineRegion f fun t =>
    t.acceptDone p .defineRegion f fun u => u.administrative p fun v => v.defineRegion f.payload

/-- What UNDEFINE_REGION does after the administrator check (R29). -/
def State.undefineRegion (s : State) (payload : List Byte) : Answer :=
  match slotOf (field payload 0 1) with
  | none => .failed s .badValue
  | some k =>
    if s.highestUsed = some k ∧ (s.region k).state = .defined then
      .ok (s.modRegion k fun _ => .emptySlot) (.slot k)
    else .failed s .regionState

/-- UNDEFINE_REGION (R29). -/
def execUndefineRegion (p : Port) (f : RequestFrame) (s : State) : Answered :=
  whenRunning s <| s.requestArrives p .undefineRegion f fun t =>
    t.acceptDone p .undefineRegion f fun u => u.administrative p fun v => v.undefineRegion f.payload

/-- The frames of a slot's span, in ascending order (R3, R30). -/
def State.regionFrames (s : State) (k : Slot) : List Nat :=
  (List.range (s.regionStop k - s.regionStart k)).map fun i => s.regionStart k + i

/-- A frame of a region that comes into service (R30). -/
def PoolManager.scrubFrame (q : PoolManager) (f : Nat) : PoolManager :=
  q.setFrame f { q.frame f with state := .scrubbing }

/-- The region's frames come into service behind the queue's frames (R30). -/
def State.bringOnline (s : State) (k : Slot) : State :=
  ((s.modRegion k fun r => { r with state := .online }).modPool fun q =>
    { (s.regionFrames k).foldl PoolManager.scrubFrame q with
      scrubQueue := q.scrubQueue ++ s.regionFrames k }).settleScrub

/-- What ONLINE_REGION does after the administrator check (R30). -/
def State.onlineRegion (s : State) (payload : List Byte) : Answer :=
  match slotOf (field payload 0 1) with
  | none => .failed s .badValue
  | some k =>
    if (s.region k).state = .defined then .ok (s.bringOnline k) (.slotState k .online)
    else .failed s .regionState

/-- ONLINE_REGION (R30). -/
def execOnlineRegion (p : Port) (f : RequestFrame) (s : State) : Answered :=
  whenRunning s <| s.requestArrives p .onlineRegion f fun t =>
    t.acceptDone p .onlineRegion f fun u => u.administrative p fun v => v.onlineRegion f.payload

/-- What RETIRE_REGION does after the administrator check (R31). -/
def State.retireRequest (s : State) (payload : List Byte) : Answer :=
  match slotOf (field payload 0 1) with
  | none => .failed s .badValue
  | some k =>
    if (s.region k).state = .online then
      let t := s.startDrain k .admin
      .ok t (.slotState k (t.region k).state)
    else .failed s .regionState

/-- RETIRE_REGION (R31). -/
def execRetireRegion (p : Port) (f : RequestFrame) (s : State) : Answered :=
  whenRunning s <| s.requestArrives p .retireRegion f fun t =>
    t.acceptDone p .retireRegion f fun u => u.administrative p fun v => v.retireRequest f.payload

end Sys2Proof.Machine
end

