-- ==== Sys2Proof/Machine/ResetCommands.lean ====
section
/-! DEFINITION. The commands of the reset pins: DEVICE_RESET and RESET_RELEASE. -/

namespace Sys2Proof.Machine

/-- Every block in its reset state with RESET# low (R199 and the reset rule of each block: R2, R5, R8, R9, R11, R54,
R76, R77, R122, R133, R135, R156, R180). What is outside the part stays: the waiting commands, the fitted DRAM, the
time; the DRAM's contents become undefined (R133). -/
def State.deviceReset (s : State) : State :=
  { State.reset with
    resetLow := true
    now := s.now
    freeIndex := s.freeIndex + 1
    dram := { Dram.reset with fitted := s.dram.fitted }
    pending := s.pending }

/-- DEVICE_RESET (R199). -/
def execDeviceReset (s : State) : Answered :=
  .next s.deviceReset

/-- RESET_RELEASE (R193): the value on ADMSEL[1:0] is sampled, and the role becomes RESERVED for that port. RESET# that
is not low is not released: no change (log entry 5). -/
def execResetRelease (admsel : Port) (s : State) : Answered :=
  .next (if s.resetLow then { s with resetLow := false, role := .reserved admsel } else s)

end Sys2Proof.Machine
end

