-- ==== Sys2Proof/Machine/SessionCommands.lean ====
section
/-! DEFINITION. OPEN, CLOSE and SET_ORDER. -/

namespace Sys2Proof.Machine

/-- What OPEN does (R184, R96): the session is OPEN, both acceptance counters are 0, a role RESERVED for the port
becomes HELD by it, and PORT_STATE is raised; the reply reports the port's standing. -/
def State.openSession (s : State) (p : Port) : Answer :=
  let s1 := s.modSession p fun c => { c with state := .opened }
  let s2 := s1.modRequests p fun r => { r with nextExpedited := 0, nextOrdinary := 0 }
  let s3 :=
    if s2.role = .reserved p then ({ s2 with role := .held p }).raiseAdminChanged (some p) else s2
  let s4 := s3.raisePortState p .opened .opened
  .ok s4 (.opened p (s4.isAdmin p) (s4.port p).aperture.quota (s4.mappedCount p))

/-- OPEN (R184). -/
def execOpenSession (p : Port) (f : RequestFrame) (s : State) : Answered :=
  whenRunning s <| s.requestArrives p .openSession f fun t =>
    t.acceptDone p .openSession f fun u => u.openSession p

/-- CLOSE (R185, R113): the session becomes CLOSING, and the entry behaves as a FENCE. -/
def execCloseSession (p : Port) (f : RequestFrame) (s : State) : Answered :=
  whenRunning s <| s.requestArrives p .closeSession f fun t =>
    (t.modSession p fun c => { c with state := .closing }).acceptBarrier p .closeSession f

/-- What SET_ORDER does (R95). -/
def State.setOrder (s : State) (p : Port) (payload : List Byte) : Answer :=
  let limit := field payload 1 1
  match modeOf (field payload 0 1) with
  | some mode =>
    if 1 ≤ limit ∧ limit ≤ 16 then
      .ok (s.modRequests p fun r => { r with mode := mode, burstLimit := limit }) (.order mode limit)
    else .failed s .badValue
  | none => .failed s .badValue

/-- SET_ORDER (R95). -/
def execSetOrder (p : Port) (f : RequestFrame) (s : State) : Answered :=
  whenRunning s <| s.requestArrives p .setOrder f fun t =>
    t.acceptDone p .setOrder f fun u => u.setOrder p f.payload

end Sys2Proof.Machine
end

