-- ==== Sys2Proof/Machine/TimerCommands.lean ====
section
/-! DEFINITION. The timer events. An expiry is taken when the clock stands at its time or later; taken before, it
takes the clock there (log entry 4). A timer that is stopped, and a record that is gone, has no expiry (log entry 5). -/

namespace Sys2Proof.Machine

/-- A HELLO falls due and the next 1 ms after it (R159, R160). -/
def LinkUnit.helloDue (l : LinkUnit) (due : Nat) : LinkUnit :=
  { l with helloPending := true, helloTimer := some (due + ticks 1) }

/-- HELLO_TIMER_EXPIRY (R159, R160): the timer runs in ALIGNING and ANSWERING. -/
def execHelloTimerExpiry (p : Port) (s : State) : Answered :=
  whenRunning s <|
    match (s.port p).link.helloTimer with
    | some due => (s.reachTime due).modLink p fun l => l.helloDue due
    | none => s

/-- The expiry of a running replay timer (R173): the fourth in a row is link loss into ALIGNING. -/
def State.replayExpired (s : State) (p : Port) : State :=
  if (s.port p).link.timeouts < 3 then
    s.modLink p fun l => l.timeout s.now (ticks s.replayTimeout)
  else s.loseLink p .aligning

/-- REPLAY_TIMER_EXPIRY (R173). -/
def execReplayTimerExpiry (p : Port) (s : State) : Answered :=
  whenRunning s <|
    match (s.port p).link.replayTimer with
    | some expiry => (s.reachTime expiry).replayExpired p
    | none => s

/-- The expiry of a running hold timer (R144): one HOLD_OVERDUE for the present hold, and the timer stops. -/
def State.holdExpired (s : State) (p : Port) : State :=
  let stopped := s.modTransmit p fun t => { t with holdTimer := none }
  if (s.port p).transmit.hold ∧ ¬(s.port p).transmit.overdueSent then
    (stopped.modTransmit p fun t => { t with overdueSent := true }).raiseNotice p .holdOverdue
  else stopped

/-- HOLD_TIMER_EXPIRY (R144). -/
def execHoldTimerExpiry (p : Port) (s : State) : Answered :=
  whenRunning s <|
    match (s.port p).transmit.holdTimer with
    | some expiry => (s.reachTime expiry).holdExpired p
    | none => s

/-- The record with this offer number (R56, R58). -/
def State.offerNumbered (s : State) (number : Byte) : Option Offer :=
  s.share.offers.find? fun o => o.number == number

/-- OFFER_EXPIRY (R66): the record is removed, and both parties are told. -/
def execOfferExpiry (number : Byte) (s : State) : Answered :=
  whenRunning s <|
    match s.offerNumbered number with
    | some o =>
      ((((s.reachTime o.deadline).removeOffer number).raiseNotice o.offering
        (.offerExpired number))).raiseNotice o.target (.offerExpired number)
    | none => s

end Sys2Proof.Machine
end

