-- ==== Sys2Proof/Machine/TransmitCommands.lean ====
section
/-! DEFINITION. The transmit events of a port: its transmitter is free and begins one frame (R136, R169, R175). A
command whose frame is not the one the precedence of R136 gives has nothing to send (log entries 5 and 13). -/

namespace Sys2Proof.Machine

/-- TRANSMIT_CHOICE (R136 to R138). -/
def execTransmitChoice (p : Port) (s : State) : Answered :=
  whenRunning s (s.transmitNew p)

/-- The buffered frame at the retransmission position (R175). -/
def LinkUnit.resendFrame (l : LinkUnit) : Option LinkFrame :=
  match l.retransmit with
  | some q => l.replay.find? fun f => f.seq == q
  | none => none

/-- The position moves to the next buffered frame, or the retransmission ends (R175). -/
def LinkUnit.moveOn (l : LinkUnit) : LinkUnit :=
  match l.retransmit with
  | some q => { l with retransmit := nextBuffered q l.replay }
  | none => l

/-- RETRANSMIT (R175): the buffered frame at the position is sent again, when no link-control frame is pending. -/
def execRetransmit (p : Port) (s : State) : Answered :=
  whenRunning s <|
    if (s.port p).link.state = .up ∧ (s.port p).link.noControlPending then
      match (s.port p).link.resendFrame with
      | some f => (s.modLink p LinkUnit.moveOn).send p f
      | none => s
    else s

/-- SEND_LINK_HELLO (R169, item 1; R201): in ALIGNING or ANSWERING, when one is pending. -/
def execSendLinkHello (p : Port) (s : State) : Answered :=
  whenRunning s <|
    let l := (s.port p).link
    if (l.state = .aligning ∨ l.state = .answering) ∧ l.helloPending then
      (s.modLink p fun l => { l with helloPending := false }).send p
        (controlFrame helloCode (helloFlags l.state) 0)
    else s

/-- SEND_LINK_NAK (R169, item 2): in UP, when one is pending; it carries the expected sequence it was raised with. -/
def execSendLinkNak (p : Port) (s : State) : Answered :=
  whenRunning s <|
    match (s.port p).link.state, (s.port p).link.pendingNak with
    | .up, some value =>
      (s.modLink p fun l => { l with pendingNak := none }).send p (controlFrame nakCode 0 value)
    | .up, none => s
    | .offline, _ => s
    | .aligning, _ => s
    | .answering, _ => s

/-- SEND_LINK_ACK (R168; R169, item 3): in UP, when one is pending and no LINK_NAK is; its hold bit is clear. -/
def execSendLinkAck (p : Port) (s : State) : Answered :=
  whenRunning s <|
    match (s.port p).link.state, (s.port p).link.pendingNak, (s.port p).link.pendingAck with
    | .up, none, some value =>
      (s.modLink p fun l => { l with pendingAck := none }).send p (controlFrame ackCode 0 value)
    | .up, none, none => s
    | .up, some _, _ => s
    | .offline, _, _ => s
    | .aligning, _, _ => s
    | .answering, _, _ => s

end Sys2Proof.Machine
end

