-- ==== Sys2Proof/Machine/Dispatch.lean ====
section
/-! DEFINITION. The effect of each command: one arm per constructor of Instr. -/

namespace Sys2Proof.Machine

/-- A command's effect on everything but the queue of waiting commands. -/
def exec (i : Instr) (s : State) : Host.Outcome State Fault Refusal :=
  match i with
  | .deviceReset => Sys2Proof.Machine.execDeviceReset s
  | .resetRelease a => Sys2Proof.Machine.execResetRelease a s
  | .receiverLockGained p => Sys2Proof.Machine.execReceiverLockGained p s
  | .receiverLockLost p => Sys2Proof.Machine.execReceiverLockLost p s
  | .damagedFrame p bs => Sys2Proof.Machine.execDamagedFrame p bs s
  | .linkHello p seen => Sys2Proof.Machine.execLinkHello p seen s
  | .linkAck p v h => Sys2Proof.Machine.execLinkAck p v h s
  | .linkNak p v => Sys2Proof.Machine.execLinkNak p v s
  | .unknownRequestKind p k f => Sys2Proof.Machine.execUnknownRequestKind p k f s
  | .openSession p f => Sys2Proof.Machine.execOpenSession p f s
  | .closeSession p f => Sys2Proof.Machine.execCloseSession p f s
  | .setOrder p f => Sys2Proof.Machine.execSetOrder p f s
  | .read p f => Sys2Proof.Machine.execRead p f s
  | .write p f => Sys2Proof.Machine.execWrite p f s
  | .fence p f => Sys2Proof.Machine.execFence p f s
  | .alloc p f => Sys2Proof.Machine.execAlloc p f s
  | .release p f => Sys2Proof.Machine.execRelease p f s
  | .offer p f => Sys2Proof.Machine.execOffer p f s
  | .accept p f => Sys2Proof.Machine.execAccept p f s
  | .decline p f => Sys2Proof.Machine.execDecline p f s
  | .withdraw p f => Sys2Proof.Machine.execWithdraw p f s
  | .queryPort p f => Sys2Proof.Machine.execQueryPort p f s
  | .queryPage p f => Sys2Proof.Machine.execQueryPage p f s
  | .queryPool p f => Sys2Proof.Machine.execQueryPool p f s
  | .queryFrame p f => Sys2Proof.Machine.execQueryFrame p f s
  | .claimAdmin p f => Sys2Proof.Machine.execClaimAdmin p f s
  | .handAdmin p f => Sys2Proof.Machine.execHandAdmin p f s
  | .defineRegion p f => Sys2Proof.Machine.execDefineRegion p f s
  | .undefineRegion p f => Sys2Proof.Machine.execUndefineRegion p f s
  | .onlineRegion p f => Sys2Proof.Machine.execOnlineRegion p f s
  | .retireRegion p f => Sys2Proof.Machine.execRetireRegion p f s
  | .setQuota p f => Sys2Proof.Machine.execSetQuota p f s
  | .setWeight p f => Sys2Proof.Machine.execSetWeight p f s
  | .setLimitOfferLife p f => Sys2Proof.Machine.execSetLimitOfferLife p f s
  | .setLimitHoldLimit p f => Sys2Proof.Machine.execSetLimitHoldLimit p f s
  | .setLimitErrorLimit p f => Sys2Proof.Machine.execSetLimitErrorLimit p f s
  | .setLimitReplayTimeout p f => Sys2Proof.Machine.execSetLimitReplayTimeout p f s
  | .disablePort p f => Sys2Proof.Machine.execDisablePort p f s
  | .enablePort p f => Sys2Proof.Machine.execEnablePort p f s
  | .evictPort p f => Sys2Proof.Machine.execEvictPort p f s
  | .grant => Sys2Proof.Machine.execGrant s
  | .readLinesCompletion rs => Sys2Proof.Machine.execReadLinesCompletion rs s
  | .writeLinesCompletion rs => Sys2Proof.Machine.execWriteLinesCompletion rs s
  | .zeroLinesCompletion => Sys2Proof.Machine.execZeroLinesCompletion s
  | .transmitChoice p => Sys2Proof.Machine.execTransmitChoice p s
  | .retransmit p => Sys2Proof.Machine.execRetransmit p s
  | .sendLinkHello p => Sys2Proof.Machine.execSendLinkHello p s
  | .sendLinkNak p => Sys2Proof.Machine.execSendLinkNak p s
  | .sendLinkAck p => Sys2Proof.Machine.execSendLinkAck p s
  | .helloTimerExpiry p => Sys2Proof.Machine.execHelloTimerExpiry p s
  | .replayTimerExpiry p => Sys2Proof.Machine.execReplayTimerExpiry p s
  | .holdTimerExpiry p => Sys2Proof.Machine.execHoldTimerExpiry p s
  | .offerExpiry n => Sys2Proof.Machine.execOfferExpiry n s

end Sys2Proof.Machine
end

