-- ==== Sys2Proof/Safety.lean ====
section
/-! DEFINITION. What it means for a state to be in order: the properties that every step is claimed to keep, and the
conditions under which a request is accepted. -/

namespace Sys2Proof.Machine

/-! ### Stored data in canonical form -/

/-- Sparse data stands in rising order, and no ABSENT frame is listed. -/
structure State.Canonical (s : State) : Prop where
  bytes : Memory.wf s.dram.bytes = true
  flaws : Sparse.rising s.dram.flaws = true
  frames : Sparse.rising s.pool.frames = true
  listed : ∀ e ∈ s.pool.frames, e.2 ≠ .absentRecord
  apertures : ∀ p, Sparse.rising (s.port p).aperture.slots = true

/-! ### Values within the ranges of the spec's tables -/

/-- The queues and counters of a port (R77, R84, R94, R135, R142, R147, R151, R156, R163, R170, R173). -/
structure PortState.WithinBounds (q : PortState) : Prop where
  expedited : (q.requests.queue .expedited).length ≤ 4
  ordinary : (q.requests.queue .ordinary).length ≤ 16
  reservedLines : q.requests.reservedLines ≤ 64
  refusals : q.transmit.refusals.length ≤ 8
  notices : q.transmit.notices.length ≤ 16
  lost : q.transmit.lost ≤ 255
  burstLimit : 1 ≤ q.requests.burstLimit ∧ q.requests.burstLimit ≤ 16
  burst : q.transmit.burst ≤ 16
  replay : q.link.replay.length ≤ 32
  timeouts : q.link.timeouts ≤ 3
  checkErrors : q.link.checkErrors ≤ 65535

/-- The limits and counts of the part (R2, R11, R23, R56, R59, R145, R174). -/
structure State.LimitsInRange (s : State) : Prop where
  lifetime : 1 ≤ s.share.lifetime ∧ s.share.lifetime ≤ 1000
  holdLimit : 1 ≤ s.holdLimit ∧ s.holdLimit ≤ 1000
  threshold : s.pool.errorThreshold ≤ 255
  replayTimeout : 1 ≤ s.replayTimeout ∧ s.replayTimeout ≤ 100
  offers : s.share.offers.length ≤ 16
  scrubDone : s.pool.scrub.done ≤ 255
  uncorrectable : ∀ k, (s.region k).uncorrectable ≤ 255
  corrected : ∀ k, (s.region k).corrected ≤ 65535

/-- Mapped counts within their quotas (R38). -/
def State.QuotasKept (s : State) : Prop :=
  ∀ p, s.mappedCount p ≤ (s.port p).aperture.quota ∧ (s.port p).aperture.quota ≤ 4096

/-- The Memory Scheduler's values (R118, R122): operations of 1 to 8 lines, weights of 1 to 64, a turn line count of
at most 71. -/
structure State.SchedulerInRange (s : State) : Prop where
  weights : ∀ x, 1 ≤ s.scheduler.weight x ∧ s.scheduler.weight x ≤ 64
  turnLines : s.scheduler.turnLines ≤ 71
  lines : ∀ p, ∀ e ∈ (s.port p).requests.entries, ∀ t, e.translation = some t →
    1 ≤ t.lineCount ∧ t.lineCount ≤ 8

/-- The page slots are numbered 0 to 4095 (R36). -/
def State.PagesInRange (s : State) : Prop :=
  ∀ p, ∀ e ∈ (s.port p).aperture.slots, e.1 < 4096

/-- The ranges that the counts of frames and regions have: at most 4 holders and 80 pins (R5), a retired count of at
most the region's size (R2), and mapped frames that the part has (R1, R36). -/
structure State.FramesInRange (s : State) : Prop where
  holders : ∀ f, (s.frame f).holders ≤ 4
  pins : ∀ f, (s.frame f).pins ≤ 80
  retired : ∀ k, (s.region k).retired ≤ s.regionStop k - s.regionStart k
  mapped : ∀ p, ∀ e ∈ (s.port p).aperture.slots, e.2.frame < 262144

/-! ### Links -/

/-- The sequence numbers of a replay buffer end one before `next` and are consecutive (R170). -/
def consecutiveTo (next : Byte) : List LinkFrame → Prop
  | [] => True
  | f :: fs => f.seq = next - BitVec.ofNat 8 (fs.length + 1) ∧ consecutiveTo next fs

/-- The replay buffer of every link (R170, R172, R175): consecutive numbers, a timer that runs exactly while the
buffer holds a frame, and a retransmission position that names a buffered frame. -/
structure LinkUnit.ReplayInOrder (l : LinkUnit) : Prop where
  consecutive : consecutiveTo l.nextOut l.replay
  room : l.replay.length ≤ 32
  timer : l.replayTimer = none ↔ l.replay = []
  position : ∀ q, l.retransmit = some q → l.buffered q = true

/-! ### Sessions and the role -/

/-- The administrator role is held by a port in session only (R180, R186, R193). -/
def State.HolderInSession (s : State) : Prop :=
  ∀ p, s.role = .held p → s.inSession p = true

/-- Disable pending is set during a teardown only (R180, R188, R190). -/
def State.DisablePendingInTeardown (s : State) : Prop :=
  ∀ p, (s.port p).session.disablePending = true → (s.port p).session.state = .teardown

/-- A port that is CLOSED or DISABLED has no entry and maps nothing, and a port in TEARDOWN maps nothing and has only
entries IN_MEMORY (R97, R98, R180, R187). -/
structure State.OutOfSessionIsEmpty (s : State) : Prop where
  apertures : ∀ p, s.inSession p = false → (s.port p).aperture.slots = []
  teardown : ∀ p, (s.port p).session.state = .teardown →
    (s.port p).requests.entries ≠ [] ∧ (s.port p).requests.entries.all Entry.inMem = true
  closed : ∀ p, (s.port p).session.state = .closed ∨ (s.port p).session.state = .disabled →
    (s.port p).requests.entries = []

/-! ### Offers -/

/-- The offer table (R56 to R58, R60): numbers are distinct and not 0, each record is between two different ports in
session, the offering page maps the frame, and no two records share frame and target. -/
structure State.OffersInOrder (s : State) : Prop where
  places : s.share.offers.length ≤ 16
  counter : s.share.nextNumber ≠ 0
  numbers : s.share.offers.Pairwise fun a b => a.number ≠ b.number
  nonzero : ∀ o ∈ s.share.offers, o.number ≠ 0
  parties : ∀ o ∈ s.share.offers, o.target ≠ o.offering ∧ s.inSession o.offering = true ∧
    s.inSession o.target = true
  mapped : ∀ o ∈ s.share.offers, ∃ m, s.slotAt o.offering o.page = some m ∧ m.frame = o.frame
  subjects : s.share.offers.Pairwise fun a b => ¬(a.frame = b.frame ∧ a.target = b.target)

/-! ### Class queues and the memory channel -/

/-- The entries of a port and the operation in flight (R77, R91, R92, R97, R119): at most one entry is PRESENTED; the
entries IN_MEMORY are as many as operations of the port in flight, so at most one in the whole part; an entry that is
PRESENTED or IN_MEMORY is a data entry; every DONE entry has a result. -/
structure State.EntriesInOrder (s : State) : Prop where
  presented : ∀ p, ((s.port p).requests.entries.filter fun e => e.state == .presented).length ≤ 1
  inMemory : ∀ p, ((s.port p).requests.entries.filter Entry.inMem).length =
    if (s.inFlight.map Operation.participant) = some (.port p) then 1 else 0
  data : ∀ p, ∀ e ∈ (s.port p).requests.entries,
    e.state = .presented ∨ e.state = .inMemory → e.translation.isSome = true
  results : ∀ p, ∀ e ∈ (s.port p).requests.entries, e.state = .done ↔ e.result.isSome = true

/-- The write lines that an entry holds: those of a translated WRITE that has not completed at memory (R94). -/
def Entry.heldLines (e : Entry) : Nat :=
  match e.translation with
  | some t => if e.isWrite ∧ e.state ≠ .done then t.lineCount else 0
  | none => 0

/-- The reserved write lines of a port are those its entries hold, and an operation of the port in flight is that of
its entry IN_MEMORY (R94, R118). -/
structure State.WriteLinesAccounted (s : State) : Prop where
  entries : s.EntriesInOrder
  reserved : ∀ p, (s.port p).requests.reservedLines =
    ((s.port p).requests.entries.map Entry.heldLines).sum
  operation : ∀ p o, s.inFlight = some o → o.participant = .port p →
    ∃ e ∈ (s.port p).requests.entries, e.inMem = true ∧ e.operation p = some o

/-! ### The pool -/

/-- The region table (R2, R3): the non-EMPTY slots run from slot 0 upward, and each ends above the one below, by a multiple
of 256 frames, within the frames of the part; a drain cause stands in DRAINING and RETIRED slots only. -/
structure State.RegionsInOrder (s : State) : Prop where
  run : ∀ j k : Slot, j.val < k.val → (s.region k).state ≠ .empty → (s.region j).state ≠ .empty
  ends : ∀ k, (s.region k).state = .empty ↔ (s.region k).stop = none
  sizes : ∀ k, (s.region k).state ≠ .empty →
    s.regionStart k < s.regionStop k ∧ (s.regionStop k - s.regionStart k) % 256 = 0 ∧
      s.regionStop k ≤ Config.frameCount
  causes : ∀ k, (s.region k).cause.isSome = true ↔
    (s.region k).state = .draining ∨ (s.region k).state = .retired

/-- The free list, the scrub queue and the frame records (R6, R8 to R11): no frame is listed twice; a frame is FREE
exactly when it is on the free list and SCRUBBING exactly when it is in the scrub queue; the scrub head is the queue's
head; a frame is not ABSENT exactly when it lies in a region that has come into service; a listed frame lies in an
ONLINE region, and every frame of a RETIRED region is RETIRED; the retired count of a region is the number of its frames
that are RETIRED (R2). -/
structure State.PoolInOrder (s : State) : Prop where
  canonical : Sparse.rising s.pool.frames = true
  regions : s.RegionsInOrder
  freeOnce : s.pool.freeList.Nodup
  scrubOnce : s.pool.scrubQueue.Nodup
  free : ∀ f, (s.frame f).state = .free ↔ f ∈ s.pool.freeList
  scrubbing : ∀ f, (s.frame f).state = .scrubbing ↔ f ∈ s.pool.scrubQueue
  head : s.pool.scrub.head = s.pool.scrubQueue.head?
  inService : ∀ f, (s.frame f).state ≠ .absent ↔
    (s.regionIs f .online ∨ s.regionIs f .draining ∨ s.regionIs f .retired)
  listed : ∀ f, f ∈ s.pool.freeList ∨ f ∈ s.pool.scrubQueue → s.regionIs f .online
  retired : ∀ f, s.regionIs f .retired → (s.frame f).state = .retired
  retiredCounts : ∀ k, (s.region k).retired =
    (s.pool.frames.filter fun e => s.inRegion k e.1 && e.2.state == .retired).length

/-- The slots of all apertures that map a frame (R6). -/
def State.slotsOf (s : State) (f : Nat) : Nat :=
  (allPorts.map fun p => ((s.port p).aperture.slots.filter fun e => e.2.frame == f).length).sum

/-- The unfinished entries of all ports that are translated to a frame (R6). -/
def State.requestsOn (s : State) (f : Nat) : Nat :=
  (allPorts.map fun p =>
    ((s.port p).requests.entries.filter fun e =>
      (e.translation.map Translation.frame) == some f && e.state != .done).length).sum

/-- The counts of every frame (R6): holders are the slots that map it and pins the unfinished requests translated to
it; HELD means holders, PARKED means pins and no holder, and every other state means neither and no originator; no
port maps one frame in two slots; a frame on a list, and an ABSENT one, is not poisoned (R5, R10). -/
structure State.FramesCounted (s : State) : Prop where
  holders : ∀ f, (s.frame f).holders = s.slotsOf f
  pins : ∀ f, (s.frame f).pins = s.requestsOn f
  held : ∀ f, (s.frame f).state = .held ↔ 1 ≤ (s.frame f).holders
  parked : ∀ f, (s.frame f).state = .parked ↔ (s.frame f).holders = 0 ∧ 1 ≤ (s.frame f).pins
  originator : ∀ f, (s.frame f).originator.isSome = true ↔
    ((s.frame f).state = .held ∨ (s.frame f).state = .parked)
  once : ∀ p, (s.port p).aperture.slots.Pairwise fun a b => a.2.frame ≠ b.2.frame
  clean : ∀ f, (s.frame f).state = .free ∨ (s.frame f).state = .scrubbing ∨
    (s.frame f).state = .absent → (s.frame f).poisoned = false

/-- The pool with everything that refers to it (R6, R10); the target of an offer does not map its frame (R57). -/
structure State.PoolAccounted (s : State) : Prop where
  pool : s.PoolInOrder
  counts : s.FramesCounted
  canonical : s.Canonical
  entries : s.EntriesInOrder
  lines : s.WriteLinesAccounted
  idle : s.OutOfSessionIsEmpty
  offers : s.OffersInOrder
  targets : ∀ o ∈ s.share.offers, s.maps o.target o.frame = false

/-! ### The scrub position -/

/-- How the scrub position follows an event that may change the scrub queue (R11, R12, R14). An unchanged head keeps its
count and its operation; a changed head starts at 0 operations done, an operation presented for the old head is
withdrawn, and one IN_MEMORY is left; a Scrubber without an operation presents the next block of the head it has. -/
structure ScrubFollows (old : ScrubPosition) (queue : List Nat) (new : ScrubPosition) : Prop where
  head : new.head = queue.head?
  done : new.done = if old.head = queue.head? then old.done else 0
  inMemory : ∀ f b, old.op = .inMemory f b → new.op = .inMemory f b
  kept : ∀ f b, old.head = queue.head? → old.op = .presented f b → new.op = .presented f b
  presents : (∀ f b, old.op ≠ .inMemory f b) → old.head ≠ queue.head? ∨ old.op = .idle →
    new.op = match queue.head? with
      | some f => .presented f new.done
      | none => .idle

/-! ### Payloads -/

/-- A payload of this length whose fields read so: each field is an offset, a size in bytes and the number that stands
there, least significant byte first and without what exceeds its bytes (10.5, 10.6). -/
def HasLayout (bytes : List Byte) (length : Nat) (fields : List (Nat × Nat × Nat)) : Prop :=
  bytes.length = length ∧ ∀ x ∈ fields, field bytes x.1 x.2.1 = x.2.2 % 256 ^ x.2.1

/-! ### When a request frame is accepted -/

/-- A request frame of a known kind that the port's link takes in sequence and the Request Unit accepts (R78, R79,
R164 to R166): the part runs, the link is UP, the frame is in sequence and every check of R79 passes. -/
structure State.Accepts (s : State) (p : Port) (kind : RequestKind) (f : RequestFrame) : Prop where
  running : s.resetLow = false
  up : (s.port p).link.state = .up
  inSequence : f.seq = (s.port p).link.expected
  passes : s.refusalOf p kind f = none

/-- The entry of a request that is DONE at acceptance (R89, R91). -/
def Entry.answered (kind : RequestKind) (cls : ReqClass) (number mark : Byte) (result : ResultCode)
    (payload : Option ReplyPayload) : Entry :=
  { kind := kind, cls := cls, number := number, mark := mark, state := .done, result := some result,
    translation := none, writeData := none, readData := none, payload := payload }

/-- After the acceptance of a request its entry is the port's youngest, DONE, with the next number of its class, its
mark, this result and this payload (R87 to R90, R93). -/
def State.Answers (s t : State) (p : Port) (kind : RequestKind) (f : RequestFrame)
    (result : ResultCode) (payload : Option ReplyPayload) : Prop :=
  (t.port p).requests.entries.getLast? =
    some (.answered kind (frameClass f) ((s.port p).requests.nextNumber (frameClass f)) f.mark result
      payload)

/-- Nothing changed but the port's Link Unit and the entries and acceptance counters of its Request Unit. -/
structure OnlyQueued (p : Port) (s t : State) : Prop where
  others : ∀ q, q ≠ p → t.port q = s.port q
  session : (t.port p).session = (s.port p).session
  transmit : (t.port p).transmit = (s.port p).transmit
  aperture : (t.port p).aperture = (s.port p).aperture
  sent : (t.port p).sent = (s.port p).sent
  reservedLines : (t.port p).requests.reservedLines = (s.port p).requests.reservedLines
  mode : (t.port p).requests.mode = (s.port p).requests.mode
  burstLimit : (t.port p).requests.burstLimit = (s.port p).requests.burstLimit
  pool : t.pool = s.pool
  share : t.share = s.share
  scheduler : t.scheduler = s.scheduler
  inFlight : t.inFlight = s.inFlight
  dram : t.dram = s.dram
  role : t.role = s.role
  holdLimit : t.holdLimit = s.holdLimit
  replayTimeout : t.replayTimeout = s.replayTimeout
  resetLow : t.resetLow = s.resetLow
  now : t.now = s.now
  freeIndex : t.freeIndex = s.freeIndex
  pending : t.pending = s.pending

/-- The values that the spec gives the blocks at device reset (R2, R5, R8, R9, R11, R23, R36, R38, R56, R58, R59, R77,
R119, R122, R135, R145, R156, R174, R180). -/
structure AfterDeviceReset (t : State) : Prop where
  links : ∀ p, (t.port p).link =
    { state := .offline, helloTimer := none, expected := 0, nakFlag := false, pendingAck := none,
      pendingNak := none, helloPending := false, nextOut := 0, replay := [], retransmit := none,
      replayTimer := none, timeouts := 0, checkErrors := 0 }
  sessions : ∀ p, (t.port p).session = { state := .closed, cause := none, disablePending := false }
  requests : ∀ p, (t.port p).requests =
    { entries := [], nextExpedited := 0, nextOrdinary := 0, reservedLines := 0, mode := .priority,
      burstLimit := 4 }
  transmits : ∀ p, (t.port p).transmit =
    { refusals := [], notices := [], lost := 0, hold := false, holdTimer := none,
      overdueSent := false, burst := 0 }
  apertures : ∀ p, (∀ g, t.slotAt p g = none) ∧ t.mappedCount p = 0 ∧
    (t.port p).aperture.quota = 1024
  regions : ∀ k, t.region k =
    { state := .empty, stop := none, uncorrectable := 0, corrected := 0, retired := 0, cause := none }
  frames : ∀ f, t.frame f =
    { state := .absent, holders := 0, pins := 0, originator := none, poisoned := false } ∧
    t.regionSlot f = none
  lists : t.pool.freeList = [] ∧ t.pool.scrubQueue = []
  scrub : t.pool.scrub = { head := none, done := 0, op := .idle }
  threshold : t.pool.errorThreshold = 16
  share : t.share = { offers := [], nextNumber := 1, lifetime := 100 }
  weights : ∀ x, t.scheduler.weight x = 8
  turn : t.scheduler.holder = .port 0 ∧ t.scheduler.turnLines = 0 ∧ t.inFlight = none
  limits : t.holdLimit = 500 ∧ t.replayTimeout = 4

end Sys2Proof.Machine
end

