-- ==== Sys2Proof/WellFormed.lean ====
section
/-! DEFINITION. Which commands can occur: a term of Instr that fails a check here stands for no event of the part. -/

namespace Sys2Proof

/-- The payload of a frame that passed the frame check is 0 to 272 bytes (R163). -/
def RequestFrame.wf (f : RequestFrame) : Bool :=
  decide (f.payload.length ≤ Config.maxPayload)

/-- A report is about a line; the bytes of an error that passed unseen are those of a whole line (R1, R127). -/
def LineReport.wf : LineReport → Bool
  | .unseen bytes => bytes.length == Config.lineBytes
  | .clean | .corrected | .uncorrectable => true

/-- An operation covers 1 to 8 lines (R118). -/
def reportsWf (reports : List LineReport) : Bool :=
  decide (1 ≤ reports.length) && decide (reports.length ≤ Config.blockLines) &&
    reports.all LineReport.wf

/-- The checks of a command term. -/
def Instr.wf : Instr → Bool
  | .deviceReset | .resetRelease _ | .receiverLockGained _ | .receiverLockLost _ => true
  | .damagedFrame _ bytes => !frameCheck bytes
  | .linkHello _ _ | .linkAck _ _ _ | .linkNak _ _ => true
  | .unknownRequestKind _ k f =>
    (RequestKind.ofCode k).isNone && !isLinkControl k && f.wf
  | .openSession _ f | .closeSession _ f | .setOrder _ f | .read _ f | .write _ f | .fence _ f
  | .alloc _ f | .release _ f | .offer _ f | .accept _ f | .decline _ f | .withdraw _ f
  | .queryPort _ f | .queryPage _ f | .queryPool _ f | .queryFrame _ f | .claimAdmin _ f
  | .handAdmin _ f | .defineRegion _ f | .undefineRegion _ f | .onlineRegion _ f
  | .retireRegion _ f | .setQuota _ f | .setWeight _ f | .disablePort _ f | .enablePort _ f
  | .evictPort _ f => f.wf
  | .setLimitOfferLife p f => f.wf && limitCommand p f == .setLimitOfferLife p f
  | .setLimitHoldLimit p f => f.wf && limitCommand p f == .setLimitHoldLimit p f
  | .setLimitErrorLimit p f => f.wf && limitCommand p f == .setLimitErrorLimit p f
  | .setLimitReplayTimeout p f => f.wf && limitCommand p f == .setLimitReplayTimeout p f
  | .grant | .zeroLinesCompletion => true
  | .readLinesCompletion reports | .writeLinesCompletion reports => reportsWf reports
  | .transmitChoice _ | .retransmit _ | .sendLinkHello _ | .sendLinkNak _ | .sendLinkAck _ => true
  | .helloTimerExpiry _ | .replayTimerExpiry _ | .holdTimerExpiry _ => true
  | .offerExpiry n => n != 0

end Sys2Proof
end

