-- ==== Sys2Proof/Certificates/Slice0/Obligations.lean ====
section
/-! DEFINITION. The statements about this model, one definition each. -/

section

open Sys2Proof Sys2Proof.Machine

/-! ### The block and its reset pins -/

/-- A step takes the command at the front of the queue and runs it on the state with the queue's rest. On an empty queue
one tick passes and nothing else changes: the model's choice (log entry 3). -/
def Obligations.StepTakesFrontCommand : Prop :=
  (∀ (c : Instr) (rest : List Instr) (s : State),
    step { s with pending := c :: rest } = exec c { s with pending := rest }) ∧
  ∀ s : State, s.pending = [] → step s = .next { s with now := s.now + 1 }

/-- Every command answers a next state, in every state, a command whose event cannot occur among them. It leaves the
waiting commands and the fitted DRAM alone, and time does not run back. All of this is the model's choice: log entry 5
(events that cannot occur), 24 (the queue), 7 (the fitted DRAM), 3 and 4 (time). -/
def Obligations.EveryCommandAnswers : Prop :=
  ∀ (c : Instr) (s : State), ∃ t, exec c s = .next t ∧ t.pending = s.pending ∧
    t.dram.fitted = s.dram.fitted ∧ s.now ≤ t.now

/-- DEVICE_RESET gives every block its reset values, forgets the DRAM's contents and leaves what is outside the part
alone; the state that a run starts from has the same values. (The model's choices: that no line is known to hold a
flaw, log entry 21; that the fitted DRAM, time and the waiting commands stay, log entries 7, 3 and 24; that State.reset
has RESET# high, log entry 6.) RESET_RELEASE samples the straps and reserves the role; while RESET# is low every other
command but DEVICE_RESET leaves every block as the reset left it, and a RESET# that is high is not released again (log
entries 5 and 6). -/
def Obligations.ResetValuesAndResetPins : Prop :=
  (∀ s : State, ∃ t, exec .deviceReset s = .next t ∧ AfterDeviceReset t ∧ t.resetLow = true ∧
    (∀ a, Sparse.get t.dram.bytes a = none) ∧ (∀ l, t.dram.flaw l = none) ∧
    t.dram.fitted = s.dram.fitted ∧ t.now = s.now ∧ t.pending = s.pending) ∧
  AfterDeviceReset State.reset ∧ State.reset.resetLow = false ∧ State.reset.pending = [] ∧
  ∀ s : State,
    (s.resetLow = true → ∀ a : Port,
      exec (.resetRelease a) s = .next { s with resetLow := false, role := .reserved a }) ∧
    (s.resetLow = false → ∀ a : Port, exec (.resetRelease a) s = .next s) ∧
    (s.resetLow = true → ∀ c : Instr, c ≠ .deviceReset → (∀ a, c ≠ .resetRelease a) →
      exec c s = .next s)

/-! ### The bytes of replies and notices -/

/-- The bytes of 10.5 and 10.6: the length and every field of each kind of reply payload and of each notice, each read
least significant byte first, with the codes and markers of 10.3 and 10.5; what the payload of a reply is made from; and
the result and reason codes of 10.3. -/
def Obligations.RepliesAndNoticesLaidOut : Prop :=
  let flag (b : Bool) : Nat := if b then 1 else 0
  let noPort (p : Option Port) : Nat := match p with | some q => q.val | none => 255
  let noSlot (k : Option Slot) : Nat := match k with | some j => j.val | none => 255
  let rights (r : Rights) : Nat := match r with | .ro => 0 | .rw => 1
  let mode (m : OrderMode) : Nat := match m with | .arrival => 0 | .priority => 1
  let session (x : SessionState) : Nat :=
    match x with | .closed => 0 | .opened => 1 | .closing => 2 | .teardown => 3 | .disabled => 4
  let region (x : RegionState) : Nat :=
    match x with | .empty => 0 | .defined => 1 | .online => 2 | .draining => 3 | .retired => 4
  let frame (x : FrameState) : Nat :=
    match x with
    | .absent => 0 | .scrubbing => 1 | .free => 2 | .held => 3 | .parked => 4 | .retired => 5
  let cause (c : TeardownCause) : Nat :=
    match c with | .closedByHost => 1 | .linkLost => 2 | .evicted => 3 | .disabled => 4
  let drain (c : Option DrainCause) : Nat :=
    match c with | none => 0 | some .admin => 1 | some .threshold => 2
  let reason (r : OfferReason) : Nat :=
    match r with
    | .declined => 1 | .targetGone => 2 | .withdrawn => 3 | .released => 4 | .offererGone => 5
  let shape (x : ReplyPayload) : Nat × List (Nat × Nat × Nat) :=
    match x with
    | .opened p admin quota mapped => (9, [(0, 1, p.val), (1, 1, flag admin), (2, 2, quota),
        (4, 2, mapped), (6, 1, 4), (7, 1, 16), (8, 1, 64)])
    | .order m limit => (2, [(0, 1, mode m), (1, 1, limit)])
    | .allocated page count frames => (3 + 4 * frames.length, (0, 2, page) :: (2, 1, count) ::
        frames.zipIdx.map fun y => (3 + 4 * y.2, 4, y.1))
    | .released page count => (3, [(0, 2, page), (2, 1, count)])
    | .offered n page target r life => (7, [(0, 1, n.toNat), (1, 2, page), (3, 1, target.val),
        (4, 1, rights r), (5, 2, life)])
    | .accepted n page f r => (8, [(0, 1, n.toNat), (1, 2, page), (3, 4, f), (7, 1, rights r)])
    | .offerNumber n => (1, [(0, 1, n.toNat)])
    | .holder p => (1, [(0, 1, p.val)])
    | .defined k start stop => (9, [(0, 1, k.val), (1, 4, start), (5, 4, stop)])
    | .slot k => (1, [(0, 1, k.val)])
    | .slotState k state => (2, [(0, 1, k.val), (1, 1, region state)])
    | .quotaSet p quota mapped => (5, [(0, 1, p.val), (1, 2, quota), (3, 2, mapped)])
    | .weightSet n weight replaced => (3, [(0, 1, n), (1, 1, weight), (2, 1, replaced)])
    | .limitSet l value replaced => (5, [(0, 1, match l with
        | .offerLife => 1 | .holdLimit => 2 | .errorLimit => 3 | .replayTimeout => 4),
        (1, 2, value), (3, 2, replaced)])
    | .portState p state => (2, [(0, 1, p.val), (1, 1, session state)])
    | .portReport r => (25, [(0, 1, r.port.val), (1, 1, session r.session),
        (2, 1, match r.cause with | some c => cause c | none => 0), (3, 1, flag r.disablePending),
        (4, 1, match r.role with | .vacant => 0 | .reserved _ => 1 | .held _ => 2),
        (5, 1, match r.role with | .vacant => 255 | .reserved q => q.val | .held q => q.val),
        (6, 1, match r.link with | .offline => 0 | .aligning => 1 | .answering => 2 | .up => 3),
        (7, 2, r.checkErrors), (9, 2, r.quota), (11, 2, r.mapped), (13, 1, r.expeditedEntries),
        (14, 1, r.ordinaryEntries), (15, 1, r.freeLines), (16, 1, mode r.mode),
        (17, 1, r.burstLimit), (18, 1, r.offersMade), (19, 1, r.offersReceived),
        (20, 2, r.lifetime), (22, 2, r.holdLimit), (24, 1, r.replayTimeout)])
    | .pageReport r =>
      let common := [(0, 1, r.port.val), (1, 2, r.page), (3, 1, flag r.mapping.isSome),
        (4, 2, r.mapped), (6, 2, r.quota)]
      match r.mapping with
      | none => (8, common)
      | some (m, x) => (19, common ++ [(8, 4, m.frame), (12, 1, rights m.rights),
          (13, 1, match m.origin with | .allocated => 0 | .accepted => 1), (14, 1, frame x.state),
          (15, 1, x.holders), (16, 1, x.pins), (17, 1, noPort x.originator),
          (18, 1, flag x.poisoned)])
    | .poolReport r => (15 + 18 * r.regions.length, [(0, 4, r.freeLength), (4, 4, r.scrubLength),
        (8, 4, match r.head with | some f => f | none => 4294967295), (12, 1, r.done),
        (13, 1, r.threshold), (14, 1, r.regions.length)] ++
        r.regions.zipIdx.flatMap fun y =>
          let at' := 15 + 18 * y.2
          [(at', 1, y.1.slot.val), (at' + 1, 1, region y.1.state), (at' + 2, 4, y.1.start),
            (at' + 6, 4, y.1.stop), (at' + 10, 1, y.1.uncorrectable), (at' + 11, 2, y.1.corrected),
            (at' + 13, 4, y.1.retired), (at' + 17, 1, drain y.1.cause)])
    | .frameReport r => (12, [(0, 4, r.frame), (4, 1, frame r.record.state), (5, 1, noSlot r.slot),
        (6, 1, r.record.holders), (7, 1, r.record.pins), (8, 1, noPort r.record.originator),
        (9, 1, flag r.record.poisoned),
        (10, 2, match r.scrubDone with | some d => d | none => 65535)])
  let note (n : Notice) : Byte × Nat × List (Nat × Nat × Nat) :=
    match n with
    | .offerReceived i p r => (1, 3, [(0, 1, i.toNat), (1, 1, p.val), (2, 1, rights r)])
    | .offerTaken i page => (2, 3, [(0, 1, i.toNat), (1, 2, page)])
    | .offerDeclined i r => (3, 2, [(0, 1, i.toNat), (1, 1, reason r)])
    | .offerWithdrawn i r => (4, 2, [(0, 1, i.toNat), (1, 1, reason r)])
    | .offerExpired i => (5, 1, [(0, 1, i.toNat)])
    | .adminChanged h => (6, 1, [(0, 1, noPort h)])
    | .regionState k state c => (7, 3, [(0, 1, k.val), (1, 1, region state), (2, 1, drain c)])
    | .framePoisoned f k => (8, 5, [(0, 4, f), (4, 1, noSlot k)])
    | .portState p state c => (9, 3, [(0, 1, p.val), (1, 1, session state), (2, 1, match c with
        | .ended x => cause x | .opened => 5 | .enabled => 6)])
    | .holdOverdue => (10, 0, [])
    | .sessionEnded c => (11, 1, [(0, 1, cause c)])
  (∀ x : ReplyPayload, HasLayout x.bytes (shape x).1 (shape x).2) ∧
  (∀ n : Notice, n.code = (note n).1 ∧ HasLayout n.bytes (note n).2.1 (note n).2.2) ∧
  (∀ (e : Entry) (data : List Byte), e.readData = some data → e.replyBytes = data) ∧
  (∀ (e : Entry) (x : ReplyPayload), e.readData = none → e.payload = some x →
    e.replyBytes = x.bytes) ∧
  (∀ e : Entry, e.readData = none → e.payload = none → e.replyBytes = []) ∧
  (∀ r : ResultCode, [ResultCode.ok, .faultUnmapped, .faultRights, .bounds, .dataError, .pageInUse,
    .notMapped, .quota, .quotaInUse, .noFrames, .noOffer, .offersFull, .offerPending, .alreadyMapped,
    .self, .rights, .portClosed, .notAdmin, .adminHeld, .regionState, .badValue][r.code.toNat]? =
      some r) ∧
  ∀ r : RefusalReason, r.code ≠ 0 ∧ [RefusalReason.notOpen, .alreadyOpen, .notReady, .portDisabled,
    .closing, .classRefused, .windowFull, .dataFull, .malformed][r.code.toNat - 1]? = some r

/-! ### Links -/

/-- The check of R200 over bytes; which bytes fail the frame check of R163; and receiver lock gained and lost outside UP,
and damaged frames. (That lock gained while it is held, and lost while OFFLINE, changes nothing is the model's choice, log
entry 5.) -/
def Obligations.LockAndDamagedFrames : Prop :=
  let enter (register : Check) (bit : Bool) : Check :=
    if register.getLsbD 15 ≠ bit then (register <<< 1) ^^^ 0x1021#16 else register <<< 1
  (∀ bytes : List Byte, checkOf bytes =
    (bytes.flatMap fun b => [7, 6, 5, 4, 3, 2, 1, 0].map b.getLsbD).foldl enter 0xFFFF#16) ∧
  checkOf [0x31, 0x32, 0x33, 0x34, 0x35, 0x36, 0x37, 0x38, 0x39] = 0x29B1#16 ∧
  (∀ bytes : List Byte,
    let kind := bytes.getD 0 0
    let payload := (bytes.getD 4 0).toNat + 256 * (bytes.getD 5 0).toNat
    let check := checkOf (bytes.take (8 + payload))
    frameCheck bytes = false ↔
      bytes.length < 10 ∨ 272 < payload ∨ bytes.length ≠ 10 + payload ∨
      bytes.drop (8 + payload) ≠ [check.extractLsb' 0 8, check.extractLsb' 8 8] ∨
      (kind ∈ [0x01, 0x02, 0x03] ∧ (payload ≠ 0 ∨ bytes.getD 1 0 ≠ 0 ∨
        ∃ bit, (bytes.getD 2 0).getLsbD bit = true ∧ ¬(kind = 0x01 ∧ bit = 1) ∧
          ¬(kind = 0x02 ∧ bit = 2)))) ∧
  ∀ (s : State) (p : Port), s.resetLow = false →
    ((s.port p).link.state = .offline →
      exec (.receiverLockGained p) s = .next (s.modLink p fun l =>
        { l with state := .aligning, helloPending := true, helloTimer := some (s.now + ticks 1) })) ∧
    ((s.port p).link.state ≠ .offline → exec (.receiverLockGained p) s = .next s) ∧
    ((s.port p).link.state = .aligning ∨ (s.port p).link.state = .answering →
      exec (.receiverLockLost p) s = .next (s.modLink p fun l =>
        { l with state := .offline, helloPending := false, helloTimer := none })) ∧
    ((s.port p).link.state = .offline → exec (.receiverLockLost p) s = .next s) ∧
    ∀ bytes, frameCheck bytes = false →
      ((s.port p).link.state ≠ .offline →
        exec (.damagedFrame p bytes) s = .next (s.modLink p fun l =>
          { l with checkErrors := min 65535 (l.checkErrors + 1) })) ∧
      ((s.port p).link.state = .offline → exec (.damagedFrame p bytes) s = .next s)

/-- LINK_HELLO in each link state: it is not heard in OFFLINE, it brings ALIGNING to ANSWERING, with seen set it brings
ANSWERING to UP, and with seen set in UP it is acknowledged. (Seen clear in UP is a link loss.) -/
def Obligations.HelloInEachLinkState : Prop :=
  ∀ (s : State) (p : Port) (seen : Bool), s.resetLow = false →
    ((s.port p).link.state = .offline → exec (.linkHello p seen) s = .next s) ∧
    ((s.port p).link.state = .aligning →
      exec (.linkHello p seen) s = .next (s.modLink p fun l =>
        { l with state := .answering, helloPending := true, helloTimer := some (s.now + ticks 1) })) ∧
    ((s.port p).link.state = .answering → seen = true →
      exec (.linkHello p seen) s = .next (s.modLink p fun l =>
        { state := .up, helloTimer := none, helloPending := false, expected := 0, nakFlag := false,
          pendingAck := some 255, pendingNak := none, nextOut := 0, replay := [],
          retransmit := none, replayTimer := none, timeouts := 0, checkErrors := l.checkErrors })) ∧
    ((s.port p).link.state = .answering → seen = false → exec (.linkHello p seen) s = .next s) ∧
    ((s.port p).link.state = .up → seen = true →
      exec (.linkHello p seen) s = .next (s.modLink p fun l =>
        { l with pendingAck := some (l.expected - 1) }))

/-- Link loss, by each of its three events: the Link Unit is cleared into the state of the event, the Transmit Unit is
cleared, and a port in session is then torn down with cause LINK_LOST, keeping its entries IN_MEMORY alone; out of
session nothing else changes. (An expiry takes the clock to its time, the model's choice, log entry 4.) -/
def Obligations.LinkLossClearsThePort : Prop :=
  ∀ (s base : State) (p : Port) (c : Instr) (after : LinkState), s.resetLow = false →
    (s.port p).link.state = .up →
    (c = .receiverLockLost p ∧ after = .offline ∧ base = s) ∨
      (c = .linkHello p false ∧ after = .answering ∧ base = s) ∨
      (∃ time, c = .replayTimerExpiry p ∧ after = .aligning ∧
        base = { s with now := max s.now time } ∧ (s.port p).link.replayTimer = some time ∧
        (s.port p).link.timeouts = 3) →
    let cleared : State :=
      (base.modLink p fun l =>
        { state := after, helloTimer := if after = .offline then none else some (base.now + ticks 1),
          helloPending := decide (after ≠ .offline), expected := 0, nakFlag := false,
          pendingAck := none, pendingNak := none, nextOut := 0, replay := [], retransmit := none,
          replayTimer := none, timeouts := 0, checkErrors := l.checkErrors }).modTransmit p fun _ =>
        { refusals := [], notices := [], lost := 0, hold := false, holdTimer := none,
          overdueSent := false, burst := 0 }
    (s.inSession p = false → exec c s = .next cleared) ∧
    (s.inSession p = true → exec c s = .next (cleared.startTeardown p .linkLost)) ∧
    ∃ t, exec c s = .next t ∧ (t.port p).link = (cleared.port p).link ∧
      (s.inSession p = true → (t.port p).session.cause = some .linkLost ∧
        (t.port p).requests.entries = (s.port p).requests.entries.filter Entry.inMem ∧
        (t.port p).session.state =
          (if (t.port p).requests.entries ≠ [] then .teardown
          else if (s.port p).session.disablePending = true then .disabled else .closed) ∧
        ((s.port p).session.disablePending = false →
          (t.port p).transmit = (cleared.port p).transmit)) ∧
      ∀ q, q ≠ p → (t.port q).link = (s.port q).link ∧ (t.port q).session = (s.port q).session ∧
        (t.port q).requests = (s.port q).requests

/-- LINK_ACK in UP: a value that names a buffered frame frees it and all older ones, any other value frees nothing, and
the hold bit goes to the Transmit Unit in both cases. (That overdue sent keeps its value when the bit ends a hold is the
model's choice, log entry 25.) -/
def Obligations.AckFreesFramesAndCarriesHold : Prop :=
  ∀ (s : State) (p : Port) (value : Byte) (hold : Bool), s.resetLow = false →
    (s.port p).link.state = .up →
    let held (u : State) : State := u.modTransmit p fun t =>
      if t.hold = hold then t
      else if hold then
        { t with hold := true, holdTimer := some (s.now + ticks s.holdLimit), overdueSent := false }
      else { t with hold := false, holdTimer := none }
    (∀ old f rest, (s.port p).link.replay = old ++ f :: rest → f.seq = value →
      (∀ g ∈ old, g.seq ≠ value) →
      exec (.linkAck p value hold) s = .next (held (s.modLink p fun l =>
        { l with
          replay := rest
          retransmit :=
            if l.retransmit = none then none
            else if rest.any (fun g => l.retransmit == some g.seq) then l.retransmit
            else rest.head?.map LinkFrame.seq
          replayTimer := if rest = [] then none else some (s.now + ticks s.replayTimeout)
          timeouts := 0 }))) ∧
    ((∀ g ∈ (s.port p).link.replay, g.seq ≠ value) →
      exec (.linkAck p value hold) s = .next (held s))

/-- LINK_NAK in UP: a value that names a buffered frame frees the older ones and starts a retransmission there, the next
outbound sequence frees everything, and any other value is ignored. -/
def Obligations.NakStartsRetransmission : Prop :=
  ∀ (s : State) (p : Port) (value : Byte), s.resetLow = false → (s.port p).link.state = .up →
    (∀ old f rest, (s.port p).link.replay = old ++ f :: rest → f.seq = value →
      (∀ g ∈ old, g.seq ≠ value) →
      exec (.linkNak p value) s = .next (s.modLink p fun l =>
        { l with
          replay := f :: rest
          retransmit := some value
          replayTimer := if old = [] then l.replayTimer else some (s.now + ticks s.replayTimeout)
          timeouts := if old = [] then l.timeouts else 0 })) ∧
    ((∀ g ∈ (s.port p).link.replay, g.seq ≠ value) → value = (s.port p).link.nextOut →
      exec (.linkNak p value) s = .next (s.modLink p fun l =>
        { l with
          replay := []
          retransmit := none
          replayTimer := if l.replay = [] then l.replayTimer else none
          timeouts := if l.replay = [] then l.timeouts else 0 })) ∧
    ((∀ g ∈ (s.port p).link.replay, g.seq ≠ value) → value ≠ (s.port p).link.nextOut →
      exec (.linkNak p value) s = .next s)

/-- The three classes of a sequence number against the expected one: equal to it, one of the 127 before it, or any
other. -/
def Obligations.SequenceClasses : Prop :=
  ∀ expected seq : Byte,
    (seqClass expected seq = .inSequence ↔ seq = expected) ∧
    (seqClass expected seq = .duplicate ↔
      ∃ d : Nat, 1 ≤ d ∧ d ≤ 127 ∧ seq = expected - BitVec.ofNat 8 d) ∧
    (seqClass expected seq = .outOfSequence ↔
      ∃ d : Nat, 1 ≤ d ∧ d ≤ 128 ∧ seq = expected + BitVec.ofNat 8 d)

/-- A sequenced frame that is not in sequence on a link that is UP is not offered to the Request Unit: a duplicate is
acknowledged again, and a frame out of sequence makes one LINK_NAK pending for its gap. Before UP, OFFLINE and ALIGNING
do not take frames, and in ANSWERING a LINK_ACK, a LINK_NAK and every sequenced frame first bring the link UP. A
sequenced frame that does so is handled in UP if it carries 0, and is out of sequence with every other number. -/
def Obligations.FramesOutOfTurnAndBeforeUp : Prop :=
  ∀ (s : State) (c : Instr) (p : Port), s.resetLow = false →
    (∀ k f, c.sequenced = some (p, k, f) → (s.port p).link.state = .up →
      (seqClass (s.port p).link.expected f.seq = .duplicate →
        exec c s = .next (s.modLink p fun l => { l with pendingAck := some (l.expected - 1) })) ∧
      (seqClass (s.port p).link.expected f.seq = .outOfSequence →
        exec c s = .next (if (s.port p).link.nakFlag then s else s.modLink p fun l =>
          { l with pendingNak := some l.expected, nakFlag := true }))) ∧
    ((∃ k f, c.sequenced = some (p, k, f)) ∨ (∃ v h, c = .linkAck p v h) ∨ (∃ v, c = .linkNak p v) →
      ((s.port p).link.state = .offline ∨ (s.port p).link.state = .aligning → exec c s = .next s)) ∧
    ((s.port p).link.state = .answering →
      let up (nak : Option Byte) : State := s.modLink p fun l =>
        { state := .up, helloTimer := none, helloPending := false, expected := 0,
          nakFlag := nak.isSome, pendingAck := some 255, pendingNak := nak, nextOut := 0,
          replay := [], retransmit := none, replayTimer := none, timeouts := 0,
          checkErrors := l.checkErrors }
      ((∃ v h, c = .linkAck p v h) ∨ (∃ v, c = .linkNak p v) → exec c s = exec c (up none)) ∧
      ∀ k f, c.sequenced = some (p, k, f) →
        (f.seq = 0 → exec c s = exec c (up none)) ∧
        (f.seq ≠ 0 → exec c s = .next (up (some 0))))

/-! ### Requests -/

/-- An accepted request of any kind: its frame's number is acknowledged, the expected sequence moves on and the NAK flag
clears; nothing else of the Link Unit changes. -/
def Obligations.AcceptedFrameAcknowledged : Prop :=
  ∀ (s : State) (p : Port) (k : RequestKind) (f : RequestFrame), s.Accepts p k f →
    ∃ t, exec (requestCommand p f k) s = .next t ∧
      (t.port p).link =
        { (s.port p).link with expected := f.seq + 1, nakFlag := false, pendingAck := some f.seq }

/-- A frame in sequence that fails a check of R79, or is of no request kind, is taken and refused while the refusal queue
has room: the refusal joins the tail with the reason, number, mark and class of the frame, the frame is acknowledged,
and nothing else changes. -/
def Obligations.RefusedFrameQueuesARefusal : Prop :=
  ∀ (s : State) (p : Port) (f : RequestFrame), s.resetLow = false → (s.port p).link.state = .up →
    f.seq = (s.port p).link.expected → (s.port p).transmit.refusals.length < 8 →
    let refused (reason : RefusalReason) : State :=
      (s.modTransmit p fun t =>
        { t with
          refusals := t.refusals ++
            [{ reason := reason, seq := f.seq, mark := f.mark,
               cls := if f.flags.getLsbD 0 then .expedited else .ordinary }] }).modLink p fun l =>
        { l with expected := f.seq + 1, nakFlag := false, pendingAck := some f.seq }
    (∀ k reason, s.refusalOf p k f = some reason →
      exec (requestCommand p f k) s = .next (refused reason)) ∧
    ∀ code, exec (.unknownRequestKind p code f) s = .next (refused .malformed)

/-- A frame that needs a refusal while the refusal queue holds 8 is not taken: it is handled as a frame out of sequence,
and nothing else changes. A frame that passes the checks is accepted however full that queue is. -/
def Obligations.FullRefusalQueueLeavesTheFrame : Prop :=
  ∀ (s : State) (p : Port) (f : RequestFrame), s.resetLow = false → (s.port p).link.state = .up →
    f.seq = (s.port p).link.expected → 8 ≤ (s.port p).transmit.refusals.length →
    let left : State :=
      if (s.port p).link.nakFlag then s else s.modLink p fun l =>
        { l with pendingNak := some l.expected, nakFlag := true }
    (∀ k, s.refusalOf p k f ≠ none → exec (requestCommand p f k) s = .next left) ∧
    (∀ code, exec (.unknownRequestKind p code f) s = .next left) ∧
    ∀ k, s.refusalOf p k f = none → ∃ t, exec (requestCommand p f k) s = .next t ∧
      (t.port p).link.expected = f.seq + 1 ∧ (t.port p).link.pendingAck = some f.seq

/-- The order of the checks of acceptance and the reason of each: the first check that fails decides. -/
def Obligations.ChecksOfAcceptanceInOrder : Prop :=
  ∀ (s : State) (p : Port) (k : RequestKind) (f : RequestFrame),
    let session := (s.port p).session.state
    let cls : ReqClass := if f.flags.getLsbD 0 then .expedited else .ordinary
    let entries := ((s.port p).requests.entries.filter fun e => e.cls == cls).length
    let window := if cls = .expedited then 4 else 16
    let either := k ∈ [.read, .write, .fence, .queryPort, .queryPage, .queryPool, .queryFrame]
    let first := field f.payload 0 4 % 65536
    let last := first + field f.payload 4 2 - 1
    let linesShort := k = .write ∧
      (∃ m, s.slotAt p (field f.payload 0 4 / 65536) = some m ∧ m.rights = .rw) ∧
      first / 256 = last / 256 ∧
      64 - (s.port p).requests.reservedLines < last / 32 - first / 32 + 1
    (wellFormedRequest k f = false → s.refusalOf p k f = some .malformed) ∧
    (wellFormedRequest k f = true →
      (session = .disabled → s.refusalOf p k f = some .portDisabled) ∧
      (session = .closed → k ≠ .openSession → s.refusalOf p k f = some .notOpen) ∧
      (session = .teardown → s.refusalOf p k f =
        some (if k = .openSession then .notReady else .notOpen)) ∧
      (session = .opened ∨ session = .closing → k = .openSession →
        s.refusalOf p k f = some .alreadyOpen) ∧
      (session = .closing → k ≠ .openSession → s.refusalOf p k f = some .closing) ∧
      ((session = .closed ∧ k = .openSession) ∨ (session = .opened ∧ k ≠ .openSession) →
        (cls = .expedited ∧ ¬either → s.refusalOf p k f = some .classRefused) ∧
        (¬(cls = .expedited ∧ ¬either) →
          (window ≤ entries → s.refusalOf p k f = some .windowFull) ∧
          (entries < window → linesShort → s.refusalOf p k f = some .dataFull) ∧
          (entries < window → ¬linesShort → s.refusalOf p k f = none))))

/-- When a frame of a request kind is well formed: no flag but the class flag, bytes 6 and 7 zero, the payload length of
its kind, and no reserved value in its payload. -/
def Obligations.WellFormedRequests : Prop :=
  ∀ (k : RequestKind) (f : RequestFrame),
    wellFormedRequest k f = true ↔
      (f.flags = 0 ∨ f.flags = 1) ∧ f.byte6 = 0 ∧ f.byte7 = 0 ∧
      f.payload.length =
        (match k with
        | .openSession | .closeSession | .fence | .queryPool | .claimAdmin => 0
        | .decline | .withdraw | .queryPort | .handAdmin | .undefineRegion | .onlineRegion
        | .retireRegion | .disablePort | .enablePort | .evictPort => 1
        | .setOrder | .setWeight => 2
        | .alloc | .release | .accept | .setQuota | .setLimit => 3
        | .offer | .queryFrame | .defineRegion => 4
        | .queryPage => 5
        | .read => 6
        | .write => 6 + field f.payload 4 2) ∧
      match k with
      | .read | .write =>
        field f.payload 0 4 < 2 ^ 28 ∧ 1 ≤ field f.payload 4 2 ∧ field f.payload 4 2 ≤ 256
      | .queryPage => field f.payload 1 4 < 2 ^ 28
      | .alloc | .release => 1 ≤ field f.payload 2 1 ∧ field f.payload 2 1 ≤ 64
      | .offer => field f.payload 3 1 ≤ 1
      | .setOrder => field f.payload 0 1 ≤ 1
      | .setLimit => 1 ≤ field f.payload 0 1 ∧ field f.payload 0 1 ≤ 4
      | _ => True

/-- An accepted request of any kind but OPEN joins the tail of the port's entries, PENDING or DONE, with its kind, class
and mark and with the number its class counter stands at; that counter alone moves on, from 255 to 0. The older entries
stay as they are, but for the presentation that the Request Unit then makes, if it makes one. -/
def Obligations.AcceptedRequestNumbered : Prop :=
  ∀ (s : State) (p : Port) (k : RequestKind) (f : RequestFrame), s.Accepts p k f →
    k ≠ .openSession →
    ∃ t e, exec (requestCommand p f k) s = .next t ∧
      (t.port p).requests.entries =
        (({ (t.port p).requests with entries := (s.port p).requests.entries ++ [e] }).present
          (t.port p).session.state).entries ∧
      (e.state = .waiting ∨ e.state = .done) ∧ e.kind = k ∧ e.mark = f.mark ∧
      (f.flags = 1 → e.cls = .expedited ∧ e.number = (s.port p).requests.nextExpedited ∧
        (t.port p).requests.nextExpedited = (s.port p).requests.nextExpedited + 1 ∧
        (t.port p).requests.nextOrdinary = (s.port p).requests.nextOrdinary) ∧
      (f.flags = 0 → e.cls = .ordinary ∧ e.number = (s.port p).requests.nextOrdinary ∧
        (t.port p).requests.nextOrdinary = (s.port p).requests.nextOrdinary + 1 ∧
        (t.port p).requests.nextExpedited = (s.port p).requests.nextExpedited)

/-! ### OPEN, CLOSE, FENCE and SET_ORDER -/

/-- An accepted OPEN: the session is OPEN, the OPEN is Ordinary entry 0, DONE, and the only entry of a port that had none, a role reserved for the port becomes held
by it and every port then in session is told; otherwise the administrator, if it is another port in session, is told
that the port opened. Tables, limits, modes, the other ports' own state and all else stay. -/
def Obligations.OpenStartsASession : Prop :=
  ∀ (s : State) (p : Port) (f : RequestFrame), s.Accepts p .openSession f →
    ∃ t, exec (.openSession p f) s = .next t ∧
      (t.port p).session = { (s.port p).session with state := .opened } ∧
      t.role = (if s.role = .reserved p then .held p else s.role) ∧
      (let opened : Entry := .answered .openSession .ordinary 0 f.mark .ok
        (some (.opened p (t.role == .held p) (s.port p).aperture.quota (s.mappedCount p)))
      (t.port p).requests =
        ({ (s.port p).requests with
          nextExpedited := 0, nextOrdinary := 1
          entries := (s.port p).requests.entries ++ [opened] }).present .opened ∧
      (t.port p).requests.entries.getLast? = some opened ∧
      ((s.port p).requests.entries = [] → (t.port p).requests.entries = [opened])) ∧
      (t.port p).requests.nextExpedited = 0 ∧ (t.port p).requests.nextOrdinary = 1 ∧
      (t.port p).requests.mode = (s.port p).requests.mode ∧
      (t.port p).requests.burstLimit = (s.port p).requests.burstLimit ∧
      (t.port p).requests.reservedLines = (s.port p).requests.reservedLines ∧
      (∀ q, (t.port q).transmit =
        if s.role = .reserved p then
          if q = p ∨ s.inSession q = true then
            (s.port q).transmit.enterNotice (.adminChanged (some p))
          else (s.port q).transmit
        else if s.role = .held q ∧ q ≠ p ∧ s.inSession q = true then
          (s.port q).transmit.enterNotice (.portState p .opened .opened)
        else (s.port q).transmit) ∧
      (∀ q, (t.port q).aperture = (s.port q).aperture ∧ (t.port q).sent = (s.port q).sent) ∧
      (∀ q, q ≠ p → (t.port q).link = (s.port q).link ∧ (t.port q).session = (s.port q).session ∧
        (t.port q).requests = (s.port q).requests) ∧
      t.pool = s.pool ∧ t.share = s.share ∧ t.scheduler = s.scheduler ∧ t.inFlight = s.inFlight ∧
      t.dram = s.dram ∧ t.holdLimit = s.holdLimit ∧ t.replayTimeout = s.replayTimeout ∧
      t.now = s.now ∧ t.resetLow = s.resetLow ∧ t.freeIndex = s.freeIndex

/-- An accepted FENCE is DONE at once with result OK when every older entry of the port is DONE, and PENDING otherwise.
An accepted CLOSE does the same, and makes the session CLOSING. The barrier step of a completion makes DONE, oldest
first, each PENDING FENCE or CLOSE whose older entries are then all DONE, and changes no other entry. -/
def Obligations.FenceAndCloseWaitForOlderEntries : Prop :=
  (∀ (es : List Entry) (i : Nat) (e : Entry), es[i]? = some e →
    let barrier := (e.kind = .fence ∨ e.kind = .closeSession) ∧ e.state = .waiting
    let olderDone := ∀ (j : Nat) (o : Entry), j < i → (barrierStep true es)[j]? = some o →
      o.state = .done
    (barrier ∧ olderDone →
      (barrierStep true es)[i]? = some { e with state := .done, result := some .ok }) ∧
    (¬(barrier ∧ olderDone) → (barrierStep true es)[i]? = some e)) ∧
  ∀ (s : State) (p : Port) (f : RequestFrame) (k : RequestKind), s.Accepts p k f →
    k = .fence ∨ k = .closeSession →
    let allDone := ∀ o ∈ (s.port p).requests.entries, o.state = .done
    ∃ t e, exec (requestCommand p f k) s = .next t ∧
      (t.port p).requests.entries.getLast? = some e ∧ e.kind = k ∧ e.mark = f.mark ∧
      e.translation = none ∧ e.payload = none ∧
      (allDone → e.state = .done ∧ e.result = some .ok) ∧
      (¬allDone → e.state = .waiting ∧ e.result = none) ∧
      (k = .fence → OnlyQueued p s t) ∧
      (k = .closeSession → OnlyQueued p (s.modSession p fun c => { c with state := .closing }) t)

/-- An accepted SET_ORDER: with a burst limit of 1 to 16 the port's mode and limit take the values carried and the reply
carries them; otherwise the result is BAD_VALUE and nothing changes. -/
def Obligations.SetOrderSetsModeAndBurstLimit : Prop :=
  ∀ (s : State) (p : Port) (f : RequestFrame), s.Accepts p .setOrder f →
    let mode : OrderMode := if field f.payload 0 1 = 0 then .arrival else .priority
    let limit := field f.payload 1 1
    ∃ t, exec (.setOrder p f) s = .next t ∧
      (1 ≤ limit ∧ limit ≤ 16 →
        s.Answers t p .setOrder f .ok (some (.order mode limit)) ∧
        OnlyQueued p (s.modRequests p fun r => { r with mode := mode, burstLimit := limit }) t) ∧
      (¬(1 ≤ limit ∧ limit ≤ 16) →
        s.Answers t p .setOrder f .badValue none ∧ OnlyQueued p s t)

/-! ### READ and WRITE -/

/-- An accepted READ: FAULT_UNMAPPED through an EMPTY page, BOUNDS where it crosses a block, each DONE at once with
nothing else changed; otherwise its entry has its translation and its frame one pin more. -/
def Obligations.ReadIsTranslatedOrFaults : Prop :=
  ∀ (s : State) (p : Port) (f : RequestFrame), s.Accepts p .read f →
    let page := field f.payload 0 4 / 65536
    let first := field f.payload 0 4 % 65536
    let length := field f.payload 4 2
    let last := first + length - 1
    ∃ t, exec (.read p f) s = .next t ∧
      (s.slotAt p page = none →
        s.Answers t p .read f .faultUnmapped none ∧ OnlyQueued p s t) ∧
      ∀ m, s.slotAt p page = some m →
        (first / 256 ≠ last / 256 →
          s.Answers t p .read f .bounds none ∧ OnlyQueued p s t) ∧
        (first / 256 = last / 256 →
          OnlyQueued p
            (s.setFrame m.frame { s.frame m.frame with pins := (s.frame m.frame).pins + 1 }) t ∧
          ∃ e, (t.port p).requests.entries.getLast? = some e ∧ e.kind = .read ∧
            e.result = none ∧ (e.state = .waiting ∨ e.state = .presented) ∧
            e.writeData = none ∧ e.readData = none ∧
            e.translation = some
              { frame := m.frame, firstLine := first / 32,
                lineCount := last / 32 - first / 32 + 1, firstByte := first, length := length })

/-- An accepted WRITE: FAULT_UNMAPPED, then FAULT_RIGHTS, then BOUNDS, each DONE at once with nothing else changed;
otherwise its entry has its translation and its bytes, its frame one pin more, and its lines are reserved. -/
def Obligations.WriteIsTranslatedOrFaults : Prop :=
  ∀ (s : State) (p : Port) (f : RequestFrame), s.Accepts p .write f →
    let page := field f.payload 0 4 / 65536
    let first := field f.payload 0 4 % 65536
    let length := field f.payload 4 2
    let last := first + length - 1
    let lines := last / 32 - first / 32 + 1
    ∃ t, exec (.write p f) s = .next t ∧
      (s.slotAt p page = none →
        s.Answers t p .write f .faultUnmapped none ∧ OnlyQueued p s t) ∧
      ∀ m, s.slotAt p page = some m →
        (m.rights = .ro → s.Answers t p .write f .faultRights none ∧ OnlyQueued p s t) ∧
        (m.rights = .rw → first / 256 ≠ last / 256 →
          s.Answers t p .write f .bounds none ∧ OnlyQueued p s t) ∧
        (m.rights = .rw → first / 256 = last / 256 →
          OnlyQueued p
            ((s.setFrame m.frame
              { s.frame m.frame with pins := (s.frame m.frame).pins + 1 }).modRequests p fun r =>
                { r with reservedLines := r.reservedLines + lines }) t ∧
          ∃ e, (t.port p).requests.entries.getLast? = some e ∧ e.kind = .write ∧
            e.result = none ∧ (e.state = .waiting ∨ e.state = .presented) ∧
            e.writeData = some (f.payload.drop 6) ∧ e.readData = none ∧
            e.translation = some
              { frame := m.frame, firstLine := first / 32, lineCount := lines,
                firstByte := first, length := length })

/-! ### Mapping and sharing -/

/-- An accepted ALLOC: BOUNDS, PAGE_IN_USE, QUOTA and NO_FRAMES in this order, with nothing changed but the queue;
otherwise the frames at the head of the free list leave it and are mapped in list order to the pages in ascending
order, RW and ALLOCATED, HELD by this port alone, and no other slot, record or port changes. -/
def Obligations.AllocMapsTheHeadOfTheFreeList : Prop :=
  ∀ (s : State) (p : Port) (f : RequestFrame), s.Accepts p .alloc f → s.Canonical →
    s.pool.freeList.Nodup →
    let page := field f.payload 0 2
    let count := field f.payload 2 1
    let used := ∃ g, page ≤ g ∧ g < page + count ∧ s.slotAt p g ≠ none
    let overQuota := (s.port p).aperture.quota < s.mappedCount p + count
    let short := s.pool.freeList.length < count
    let frames := s.pool.freeList.take count
    ∃ t, exec (.alloc p f) s = .next t ∧
      let fails (r : ResultCode) := s.Answers t p .alloc f r none ∧ OnlyQueued p s t
      (4096 < page + count → fails .bounds) ∧
      (page + count ≤ 4096 → used → fails .pageInUse) ∧
      (page + count ≤ 4096 → ¬used → overQuota → fails .quota) ∧
      (page + count ≤ 4096 → ¬used → ¬overQuota → short → fails .noFrames) ∧
      (page + count ≤ 4096 → ¬used → ¬overQuota → ¬short →
        s.Answers t p .alloc f .ok (some (.allocated page count frames)) ∧
        t.pool.freeList = s.pool.freeList.drop count ∧
        (∀ (i x : Nat), frames[i]? = some x →
          t.slotAt p (page + i) = some { frame := x, rights := .rw, origin := .allocated }) ∧
        (∀ g, g < page ∨ page + count ≤ g → t.slotAt p g = s.slotAt p g) ∧
        t.mappedCount p = s.mappedCount p + count ∧
        (t.port p).aperture.quota = (s.port p).aperture.quota ∧
        (∀ x, t.frame x = if x ∈ frames then
            { s.frame x with state := .held, holders := 1, pins := 0, originator := some p }
          else s.frame x) ∧
        (∀ q, q ≠ p → t.port q = s.port q) ∧
        (t.port p).session = (s.port p).session ∧ (t.port p).transmit = (s.port p).transmit ∧
        t.pool.scrubQueue = s.pool.scrubQueue ∧ t.pool.scrub = s.pool.scrub ∧
        t.pool.regions = s.pool.regions ∧ t.pool.errorThreshold = s.pool.errorThreshold ∧
        t.share = s.share ∧ t.role = s.role ∧ t.scheduler = s.scheduler ∧
        t.holdLimit = s.holdLimit ∧ t.replayTimeout = s.replayTimeout)

/-- An accepted RELEASE: BOUNDS, then NOT_MAPPED, with nothing changed but the queue; otherwise the pages are released
one at a time in ascending order, after which they are EMPTY and no offer of them by this port is left, while every
other slot and every other offer stays. The release of one MAPPED page takes its offers out of the table, raises
OFFER_WITHDRAWN (RELEASED) for the target of each in table order, empties the slot and sends one unhold claim. (That
releasePage of an EMPTY page, which no command reaches, changes nothing is the model's choice, log entry 17.) -/
def Obligations.ReleaseEmptiesThePages : Prop :=
  (∀ (s : State) (p : Port) (g : Nat),
    let ofPage (o : Offer) : Bool := o.offering == p && o.page == g
    let untabled : State :=
      { s with share := { s.share with offers := s.share.offers.filter fun o => !ofPage o } }
    (s.slotAt p g = none → s.releasePage p g = s) ∧
    ∀ m, s.slotAt p g = some m → s.releasePage p g =
      ((((s.share.offers.filter ofPage).foldl
        (fun u o => u.raiseNotice o.target (.offerWithdrawn o.number .released)) untabled).setSlot p g
          none).unhold m.frame)) ∧
  ∀ (s : State) (p : Port) (f : RequestFrame), s.Accepts p .release f → s.Canonical →
    let page := field f.payload 0 2
    let count := field f.payload 2 1
    ∃ t, exec (.release p f) s = .next t ∧
      (4096 < page + count → s.Answers t p .release f .bounds none ∧ OnlyQueued p s t) ∧
      (page + count ≤ 4096 → (∃ g, page ≤ g ∧ g < page + count ∧ s.slotAt p g = none) →
        s.Answers t p .release f .notMapped none ∧ OnlyQueued p s t) ∧
      (page + count ≤ 4096 → (∀ g, page ≤ g → g < page + count → s.slotAt p g ≠ none) →
        s.Answers t p .release f .ok (some (.released page count)) ∧
        OnlyQueued p (((List.range count).map (page + ·)).foldl (fun u g => u.releasePage p g) s) t ∧
        (∀ g, page ≤ g → g < page + count → t.slotAt p g = none) ∧
        (∀ g, g < page ∨ page + count ≤ g → t.slotAt p g = s.slotAt p g) ∧
        (∀ q, q ≠ p → (t.port q).aperture = (s.port q).aperture) ∧
        t.mappedCount p + count = s.mappedCount p ∧
        t.share.offers = s.share.offers.filter fun o =>
          !(o.offering == p && decide (page ≤ o.page) && decide (o.page < page + count)))

/-- An accepted OFFER: its nine checks in their order, each with its result and nothing changed but the queue; otherwise
a record at the end of the table with the first number that no record carries, counting upward from the next offer
number with 1 after 255, the lifetime in force and the fields of the mapping, OFFER_RECEIVED for the target, and
nothing else. -/
def Obligations.OfferChecksAndCreatesARecord : Prop :=
  (∀ (s : State) (q : Port) (x : Nat),
    s.maps q x = true ↔ ∃ e ∈ (s.port q).aperture.slots, e.2.frame = x) ∧
  ∀ (s : State) (p : Port) (f : RequestFrame), s.Accepts p .offer f →
    let page := field f.payload 0 2
    let rights : Rights := if field f.payload 3 1 = 0 then .ro else .rw
    let fails (r : ResultCode) :=
      ∃ t, exec (.offer p f) s = .next t ∧ s.Answers t p .offer f r none ∧ OnlyQueued p s t
    (4096 ≤ page → fails .bounds) ∧
    (page < 4096 → 4 ≤ field f.payload 2 1 → fails .badValue) ∧
    (page < 4096 → field f.payload 2 1 = p.val → fails .self) ∧
    ∀ q : Port, page < 4096 → field f.payload 2 1 = q.val → q ≠ p →
      (s.slotAt p page = none → fails .notMapped) ∧
      ∀ m, s.slotAt p page = some m →
        let same := ∃ o ∈ s.share.offers, o.frame = m.frame ∧ o.target = q
        (rights = .rw ∧ m.rights = .ro → fails .rights) ∧
        (¬(rights = .rw ∧ m.rights = .ro) →
          ((s.port q).session.state ≠ .opened → fails .portClosed) ∧
          ((s.port q).session.state = .opened →
            (s.maps q m.frame = true → fails .alreadyMapped) ∧
            (s.maps q m.frame = false → same → fails .offerPending) ∧
            (s.maps q m.frame = false → ¬same → 16 ≤ s.share.offers.length → fails .offersFull) ∧
            (s.maps q m.frame = false → ¬same → s.share.offers.length < 16 →
              ∃ t n, exec (.offer p f) s = .next t ∧
                s.Answers t p .offer f .ok
                  (some (.offered n page q rights s.share.lifetime)) ∧
                (∀ o ∈ s.share.offers, o.number ≠ n) ∧
                (s.share.nextNumber ≠ 0 → n ≠ 0) ∧
                ((∀ o ∈ s.share.offers, o.number ≠ s.share.nextNumber) → n = s.share.nextNumber) ∧
                (s.share.nextNumber ≠ 0 →
                  let counted (d : Nat) : Byte :=
                    BitVec.ofNat 8 ((s.share.nextNumber.toNat - 1 + d) % 255 + 1)
                  ∃ d, d ≤ 15 ∧ n = counted d ∧
                    ∀ i, i < d → ∃ o ∈ s.share.offers, o.number = counted i) ∧
                OnlyQueued p
                  (({ s with
                      share :=
                        { s.share with
                          offers := s.share.offers ++
                            [Offer.mk n p page m.frame q rights
                              (s.now + ticks s.share.lifetime)]
                          nextNumber := if n = 255 then 1 else n + 1 } }).modTransmit q fun x =>
                    x.enterNotice (.offerReceived n p rights)) t)))

/-- An accepted ACCEPT: NO_OFFER, BOUNDS, PAGE_IN_USE and QUOTA in this order, with nothing changed but the queue;
otherwise the record is removed, the page maps the offered frame with the offered rights, the frame has one holder more,
OFFER_TAKEN goes to the offering port, and nothing else changes. -/
def Obligations.AcceptMapsTheOfferedFrame : Prop :=
  ∀ (s : State) (p : Port) (f : RequestFrame), s.Accepts p .accept f →
    let n := byteAt f.payload 0
    let page := field f.payload 1 2
    let fails (r : ResultCode) :=
      ∃ t, exec (.accept p f) s = .next t ∧ s.Answers t p .accept f r none ∧ OnlyQueued p s t
    ((∀ o ∈ s.share.offers, ¬(o.number = n ∧ o.target = p)) → fails .noOffer) ∧
    ∀ o, s.share.offers.find? (fun o => o.number == n && o.target == p) = some o →
      (4096 ≤ page → fails .bounds) ∧
      (page < 4096 → s.slotAt p page ≠ none → fails .pageInUse) ∧
      (page < 4096 → s.slotAt p page = none → (s.port p).aperture.quota < s.mappedCount p + 1 →
        fails .quota) ∧
      (page < 4096 → s.slotAt p page = none → s.mappedCount p + 1 ≤ (s.port p).aperture.quota →
        ∃ t, exec (.accept p f) s = .next t ∧
          s.Answers t p .accept f .ok (some (.accepted n page o.frame o.rights)) ∧
          OnlyQueued p
            (((({ s with
                share :=
                  { s.share with offers := s.share.offers.filter fun x => x.number != n } }).setSlot p
                page (some { frame := o.frame, rights := o.rights, origin := .accepted })).setFrame
              o.frame { s.frame o.frame with holders := (s.frame o.frame).holders + 1 }).raiseNotice
                o.offering (.offerTaken n page)) t ∧
          t.slotAt p page = some { frame := o.frame, rights := o.rights, origin := .accepted })

/-- An accepted DECLINE or WITHDRAW: NO_OFFER without a record of that number that is addressed to the port, or made by
it; otherwise the record is removed and the other party is told, and nothing else changes. -/
def Obligations.DeclineAndWithdrawRemoveTheRecord : Prop :=
  ∀ (s : State) (p : Port) (f : RequestFrame),
    let n := byteAt f.payload 0
    let removed : State :=
      { s with share := { s.share with offers := s.share.offers.filter fun x => x.number != n } }
    (s.Accepts p .decline f → ∃ t, exec (.decline p f) s = .next t ∧
      ((∀ o ∈ s.share.offers, ¬(o.number = n ∧ o.target = p)) →
        s.Answers t p .decline f .noOffer none ∧ OnlyQueued p s t) ∧
      ∀ o, s.share.offers.find? (fun o => o.number == n && o.target == p) = some o →
        s.Answers t p .decline f .ok (some (.offerNumber n)) ∧
        OnlyQueued p (removed.raiseNotice o.offering (.offerDeclined n .declined)) t) ∧
    (s.Accepts p .withdraw f → ∃ t, exec (.withdraw p f) s = .next t ∧
      ((∀ o ∈ s.share.offers, ¬(o.number = n ∧ o.offering = p)) →
        s.Answers t p .withdraw f .noOffer none ∧ OnlyQueued p s t) ∧
      ∀ o, s.share.offers.find? (fun o => o.number == n && o.offering == p) = some o →
        s.Answers t p .withdraw f .ok (some (.offerNumber n)) ∧
        OnlyQueued p (removed.raiseNotice o.target (.offerWithdrawn n .withdrawn)) t)

/-! ### Queries -/

/-- An accepted query changes nothing but the queue. A port number above 3 is BAD_VALUE; a port that asks about its own
state, or holds the role, is answered with a snapshot; QUERY_POOL is open to every port, and a QUERY_FRAME by the
administrator names a frame below 262144. (That a QUERY_PORT does not count its own entry is the model's choice, log
entry 14.) -/
def Obligations.QueriesReportASnapshot : Prop :=
  ∀ (s : State) (p : Port) (f : RequestFrame),
    (s.Accepts p .queryPort f → ∃ t, exec (.queryPort p f) s = .next t ∧ OnlyQueued p s t ∧
      (4 ≤ field f.payload 0 1 → s.Answers t p .queryPort f .badValue none) ∧
      ∀ q : Port, field f.payload 0 1 = q.val → (q = p ∨ s.role = .held p) →
        s.Answers t p .queryPort f .ok (some (.portReport
          { port := q, session := (s.port q).session.state, cause := (s.port q).session.cause,
            disablePending := (s.port q).session.disablePending, role := s.role,
            link := (s.port q).link.state, checkErrors := (s.port q).link.checkErrors,
            quota := (s.port q).aperture.quota, mapped := (s.port q).aperture.slots.length,
            expeditedEntries :=
              ((s.port q).requests.entries.filter fun e => e.cls == .expedited).length,
            ordinaryEntries :=
              ((s.port q).requests.entries.filter fun e => e.cls == .ordinary).length,
            freeLines := 64 - (s.port q).requests.reservedLines,
            mode := (s.port q).requests.mode, burstLimit := (s.port q).requests.burstLimit,
            offersMade := (s.share.offers.filter fun o => o.offering == q).length,
            offersReceived := (s.share.offers.filter fun o => o.target == q).length,
            lifetime := s.share.lifetime, holdLimit := s.holdLimit,
            replayTimeout := s.replayTimeout }))) ∧
    (s.Accepts p .queryPage f → ∃ t, exec (.queryPage p f) s = .next t ∧ OnlyQueued p s t ∧
      (4 ≤ field f.payload 0 1 → s.Answers t p .queryPage f .badValue none) ∧
      ∀ q : Port, field f.payload 0 1 = q.val → (q = p ∨ s.role = .held p) →
        s.Answers t p .queryPage f .ok (some (.pageReport
          { port := q, page := field f.payload 1 4 / 65536,
            mapped := (s.port q).aperture.slots.length, quota := (s.port q).aperture.quota,
            mapping := (s.slotAt q (field f.payload 1 4 / 65536)).map fun m =>
              (m, s.frame m.frame) }))) ∧
    (s.Accepts p .queryPool f → ∃ t, exec (.queryPool p f) s = .next t ∧ OnlyQueued p s t ∧
      s.Answers t p .queryPool f .ok (some (.poolReport
        { freeLength := s.pool.freeList.length, scrubLength := s.pool.scrubQueue.length,
          head := s.pool.scrub.head,
          done := if s.pool.scrub.head = none then 0 else s.pool.scrub.done,
          threshold := s.pool.errorThreshold,
          regions := ([0, 1, 2, 3, 4, 5, 6, 7].filter fun k => (s.region k).state != .empty).map
            fun k => RegionReport.mk k (s.region k).state (s.regionStart k) (s.regionStop k)
              (s.region k).uncorrectable (s.region k).corrected (s.region k).retired
              (s.region k).cause }))) ∧
    (s.Accepts p .queryFrame f → s.role = .held p →
      ∃ t, exec (.queryFrame p f) s = .next t ∧ OnlyQueued p s t ∧
      (262144 ≤ field f.payload 0 4 → s.Answers t p .queryFrame f .badValue none) ∧
      (field f.payload 0 4 < 262144 → s.Answers t p .queryFrame f .ok (some (.frameReport
        { frame := field f.payload 0 4, record := s.frame (field f.payload 0 4),
          slot := s.regionSlot (field f.payload 0 4),
          scrubDone := if s.pool.scrub.head = some (field f.payload 0 4) then
            some s.pool.scrub.done else none }))))

/-! ### Administration -/

/-- An administrative request of a port that does not hold the role is answered NOT_ADMIN and changes nothing but the
queue; so is a query that names another port. -/
def Obligations.AdministrativeRequestsNeedTheRole : Prop :=
  ∀ (s : State) (p : Port) (k : RequestKind) (f : RequestFrame), s.Accepts p k f →
    s.role ≠ .held p →
    k ∈ [.handAdmin, .defineRegion, .undefineRegion, .onlineRegion, .retireRegion, .setQuota,
        .setWeight, .setLimit, .disablePort, .enablePort, .evictPort, .queryFrame] ∨
      (k ∈ [.queryPort, .queryPage] ∧ ∃ q : Port, field f.payload 0 1 = q.val ∧ q ≠ p) →
    ∃ t, exec (requestCommand p f k) s = .next t ∧ s.Answers t p k f .notAdmin none ∧
      OnlyQueued p s t

/-- CLAIM_ADMIN: a vacant role becomes held by the claimant, with ADMIN_CHANGED for the ports in session; the holder's
own claim is OK and changes nothing; a role held by another port or reserved is answered ADMIN_HELD. -/
def Obligations.ClaimAdminTakesAVacantRole : Prop :=
  ∀ (s : State) (p : Port) (f : RequestFrame), s.Accepts p .claimAdmin f →
    ∃ t, exec (.claimAdmin p f) s = .next t ∧
      (s.role = .vacant → s.Answers t p .claimAdmin f .ok (some (.holder p)) ∧
        OnlyQueued p (({ s with role := .held p }).raiseAdminChanged (some p)) t) ∧
      (s.role = .held p → s.Answers t p .claimAdmin f .ok (some (.holder p)) ∧ OnlyQueued p s t) ∧
      (∀ q, q ≠ p → s.role = .held q →
        s.Answers t p .claimAdmin f .adminHeld none ∧ OnlyQueued p s t) ∧
      ∀ q, s.role = .reserved q →
        s.Answers t p .claimAdmin f .adminHeld none ∧ OnlyQueued p s t

/-- HAND_ADMIN by the holder: BAD_VALUE, SELF and PORT_CLOSED in this order with nothing changed but the queue;
otherwise the role is held by the named port and the ports in session are told. -/
def Obligations.HandAdminPassesTheRoleOn : Prop :=
  ∀ (s : State) (p : Port) (f : RequestFrame), s.Accepts p .handAdmin f → s.role = .held p →
    ∃ t, exec (.handAdmin p f) s = .next t ∧
      (4 ≤ field f.payload 0 1 → s.Answers t p .handAdmin f .badValue none ∧ OnlyQueued p s t) ∧
      (field f.payload 0 1 = p.val → s.Answers t p .handAdmin f .self none ∧ OnlyQueued p s t) ∧
      ∀ q : Port, field f.payload 0 1 = q.val → q ≠ p →
        ((s.port q).session.state ≠ .opened →
          s.Answers t p .handAdmin f .portClosed none ∧ OnlyQueued p s t) ∧
        ((s.port q).session.state = .opened →
          s.Answers t p .handAdmin f .ok (some (.holder q)) ∧
          OnlyQueued p (({ s with role := .held q }).raiseAdminChanged (some q)) t)

/-- The spans of the regions: slot 0 starts at frame 0 and every other slot at the end of the slot below, the pool size is
the end of the highest slot that is not EMPTY, and a frame names a slot whose span contains it, if there is one.
DEFINE_REGION and UNDEFINE_REGION by the holder: their checks in order with nothing changed but the queue; otherwise
the lowest EMPTY slot is DEFINED from the end of the table on, or the highest slot becomes EMPTY, and no other slot
changes. -/
def Obligations.DefineAndUndefineRegion : Prop :=
  (∀ s : State,
    s.regionStart 0 = 0 ∧ (∀ j k : Slot, k.val = j.val + 1 → s.regionStart k = s.regionStop j) ∧
    (∀ k stop, (s.region k).stop = some stop → s.regionStop k = stop) ∧
    (∀ k, (s.region k).state ≠ .empty → (∀ j, k < j → (s.region j).state = .empty) →
      s.poolSize = s.regionStop k) ∧
    ((∀ k, (s.region k).state = .empty) → s.poolSize = 0) ∧
    ∀ x,
      (∀ k, s.inRegion k x = true ↔ s.regionStart k ≤ x ∧ x < s.regionStop k) ∧
      (∀ k, s.regionSlot x = some k → s.inRegion k x = true) ∧
      (s.regionSlot x = none → ∀ k, s.inRegion k x = false) ∧
      ∀ state, s.regionIs x state = true ↔
        ∃ k, s.regionSlot x = some k ∧ (s.region k).state = state) ∧
  ∀ (s : State) (p : Port) (f : RequestFrame), s.role = .held p →
    let size := field f.payload 0 4
    (s.Accepts p .defineRegion f → ∃ t, exec (.defineRegion p f) s = .next t ∧
      (size % 256 ≠ 0 ∨ size < 256 ∨ 262144 < size →
        s.Answers t p .defineRegion f .badValue none ∧ OnlyQueued p s t) ∧
      (size % 256 = 0 ∧ 256 ≤ size ∧ size ≤ 262144 →
        ((∀ k, (s.region k).state ≠ .empty) →
          s.Answers t p .defineRegion f .regionState none ∧ OnlyQueued p s t) ∧
        ∀ k : Slot, (s.region k).state = .empty → (∀ j : Slot, j < k → (s.region j).state ≠ .empty) →
          (262144 < s.poolSize + size →
            s.Answers t p .defineRegion f .badValue none ∧ OnlyQueued p s t) ∧
          (s.poolSize + size ≤ 262144 →
            s.Answers t p .defineRegion f .ok
              (some (.defined k s.poolSize (s.poolSize + size))) ∧
            OnlyQueued p (s.modRegion k fun _ =>
              { state := .defined, stop := some (s.poolSize + size), uncorrectable := 0,
                corrected := 0, retired := 0, cause := none }) t))) ∧
    (s.Accepts p .undefineRegion f → ∃ t, exec (.undefineRegion p f) s = .next t ∧
      (8 ≤ field f.payload 0 1 →
        s.Answers t p .undefineRegion f .badValue none ∧ OnlyQueued p s t) ∧
      ∀ k : Slot, field f.payload 0 1 = k.val →
        let topDefined := (s.region k).state = .defined ∧
          ∀ j : Slot, k < j → (s.region j).state = .empty
        (¬topDefined → s.Answers t p .undefineRegion f .regionState none ∧ OnlyQueued p s t) ∧
        (topDefined →
          s.Answers t p .undefineRegion f .ok (some (.slot k)) ∧
          OnlyQueued p (s.modRegion k fun _ =>
            { state := .empty, stop := none, uncorrectable := 0, corrected := 0, retired := 0,
              cause := none }) t))

/-- ONLINE_REGION by the holder: BAD_VALUE for no slot, REGION_STATE for a slot that is not DEFINED; otherwise the slot
is ONLINE, every frame of its span is SCRUBBING and stands behind the frames of the scrub queue in ascending order, and
the Scrubber follows the queue: a new head is presented from its first block on, and a head that stays keeps its count
and its operation. -/
def Obligations.OnlineRegionQueuesItsFrames : Prop :=
  ∀ (s : State) (p : Port) (f : RequestFrame), s.Accepts p .onlineRegion f → s.role = .held p →
    s.Canonical →
    ∃ t, exec (.onlineRegion p f) s = .next t ∧
      (8 ≤ field f.payload 0 1 →
        s.Answers t p .onlineRegion f .badValue none ∧ OnlyQueued p s t) ∧
      ∀ k : Slot, field f.payload 0 1 = k.val →
        ((s.region k).state ≠ .defined →
          s.Answers t p .onlineRegion f .regionState none ∧ OnlyQueued p s t) ∧
        ((s.region k).state = .defined →
          s.Answers t p .onlineRegion f .ok (some (.slotState k .online)) ∧
          t.region k = { s.region k with state := .online } ∧
          (∀ j, j ≠ k → t.region j = s.region j) ∧
          (∀ x, t.frame x = if s.regionStart k ≤ x ∧ x < s.regionStop k then
              { s.frame x with state := .scrubbing } else s.frame x) ∧
          t.pool.scrubQueue = s.pool.scrubQueue ++
            (List.range (s.regionStop k - s.regionStart k)).map (s.regionStart k + ·) ∧
          ScrubFollows s.pool.scrub t.pool.scrubQueue t.pool.scrub ∧
          t.pool.freeList = s.pool.freeList ∧ t.pool.errorThreshold = s.pool.errorThreshold ∧
          (∀ q, q ≠ p → t.port q = s.port q) ∧ t.role = s.role ∧ t.share = s.share)

/-- A drain start, by RETIRE_REGION of an ONLINE slot or by the threshold: the slot's frames leave the free list and the
scrub queue and are RETIRED and counted, the others keep their order, held and parked frames stay, and the slot is
RETIRED at once when there is none of those, DRAINING otherwise, with its cause. The administrator is told DRAINING, and
RETIRED after it when that is at once. A Scrubber whose head left has its presented operation withdrawn and presents
block 0 of the new head; an operation IN_MEMORY is left. -/
def Obligations.RetireRegionDrains : Prop :=
  (∀ (s : State) (k : Slot) (cause : DrainCause), s.Canonical →
    let mine (x : Nat) : Prop := s.regionStart k ≤ x ∧ x < s.regionStop k
    let t := s.startDrain k cause
    let listed (x : Nat) : Prop := mine x ∧ (x ∈ s.pool.freeList ∨ x ∈ s.pool.scrubQueue)
    (∀ x, (listed x → t.frame x = { s.frame x with state := .retired }) ∧
      (¬listed x → t.frame x = s.frame x)) ∧
    t.pool.freeList = s.pool.freeList.filter (fun x => !s.inRegion k x) ∧
    t.pool.scrubQueue = s.pool.scrubQueue.filter (fun x => !s.inRegion k x) ∧
    ScrubFollows s.pool.scrub t.pool.scrubQueue t.pool.scrub ∧
    t.ports =
      (let told := s.raiseForAdmin (.regionState k .draining (some cause))
      if (t.region k).state = .retired then told.raiseForAdmin (.regionState k .retired (some cause))
      else told).ports ∧
    t = { s with pool := t.pool, ports := t.ports } ∧
    t.pool.errorThreshold = s.pool.errorThreshold ∧
    t.region k =
      { s.region k with
        state := (t.region k).state, cause := some cause
        retired := (s.region k).retired +
          ((s.pool.freeList.filter (s.inRegion k)).length +
            (s.pool.scrubQueue.filter (s.inRegion k)).length) } ∧
    ((t.region k).state = .retired ↔
      ∀ x, mine x → (t.frame x).state ≠ .held ∧ (t.frame x).state ≠ .parked) ∧
    ((t.region k).state = .retired ∨ (t.region k).state = .draining) ∧
    (∀ j, j ≠ k → t.region j = s.region j)) ∧
  ∀ (s : State) (p : Port) (f : RequestFrame), s.Accepts p .retireRegion f → s.role = .held p →
    ∃ t, exec (.retireRegion p f) s = .next t ∧
      (8 ≤ field f.payload 0 1 →
        s.Answers t p .retireRegion f .badValue none ∧ OnlyQueued p s t) ∧
      ∀ k : Slot, field f.payload 0 1 = k.val →
        ((s.region k).state ≠ .online →
          s.Answers t p .retireRegion f .regionState none ∧ OnlyQueued p s t) ∧
        ((s.region k).state = .online →
          s.Answers t p .retireRegion f .ok (some (.slotState k (t.region k).state)) ∧
          OnlyQueued p (s.startDrain k .admin) t)

/-- SET_QUOTA by the holder: BAD_VALUE, then QUOTA_IN_USE below the named port's mapped count, with nothing changed but
the queue; otherwise the named port's quota, and nothing else, takes the value. -/
def Obligations.SetQuotaSetsTheNamedPort : Prop :=
  ∀ (s : State) (p : Port) (f : RequestFrame), s.Accepts p .setQuota f → s.role = .held p →
    let quota := field f.payload 1 2
    ∃ t, exec (.setQuota p f) s = .next t ∧
      (4 ≤ field f.payload 0 1 ∨ 4096 < quota →
        s.Answers t p .setQuota f .badValue none ∧ OnlyQueued p s t) ∧
      ∀ q : Port, field f.payload 0 1 = q.val → quota ≤ 4096 →
        (quota < s.mappedCount q →
          s.Answers t p .setQuota f .quotaInUse none ∧ OnlyQueued p s t) ∧
        (s.mappedCount q ≤ quota →
          s.Answers t p .setQuota f .ok (some (.quotaSet q quota (s.mappedCount q))) ∧
          OnlyQueued p (s.modAperture q fun a => { a with quota := quota }) t)

/-- The participants are numbered by their ports, the Scrubber 4, and each has its own weight. SET_WEIGHT by the holder: BAD_VALUE for a participant above 4 or a weight outside 1 to 64; otherwise that
participant's weight, and nothing else, takes the value, and the reply carries the weight it replaced. -/
def Obligations.SetWeightSetsTheParticipant : Prop :=
  ((∀ p : Port, (Participant.port p).index.val = p.val) ∧ Participant.scrubber.index = 4 ∧
    ∀ (c : Scheduler) (x : Participant), c.weight x = c.weights[x.index]) ∧
  ∀ (s : State) (p : Port) (f : RequestFrame), s.Accepts p .setWeight f → s.role = .held p →
    let n := field f.payload 0 1
    let weight := field f.payload 1 1
    ∃ t, exec (.setWeight p f) s = .next t ∧
      (5 ≤ n ∨ weight = 0 ∨ 64 < weight →
        s.Answers t p .setWeight f .badValue none ∧ OnlyQueued p s t) ∧
      ∀ x : Participant, n = x.index.val → 1 ≤ weight → weight ≤ 64 →
        s.Answers t p .setWeight f .ok (some (.weightSet n weight (s.scheduler.weight x))) ∧
        OnlyQueued p
          { s with
            scheduler := { s.scheduler with weights := s.scheduler.weights.set x.index weight } } t

/-- SET_LIMIT by the holder, for each of the four limits: BAD_VALUE outside its range; otherwise that limit, and nothing
else, takes the value, and the reply carries the value it replaced. The selector, the payload's first byte, chooses the
limit: 1 for OFFER_LIFE, 2 for HOLD_LIMIT, 3 for ERROR_LIMIT, 4 for REPLAY_TIMEOUT. (That the term of a row does so
whatever selector its frame carries, which no received frame shows, is the model's choice, log entry 16.) -/
def Obligations.SetLimitSetsTheSelectedLimit : Prop :=
  ∀ (s : State) (p : Port) (f : RequestFrame), s.Accepts p .setLimit f → s.role = .held p →
    let value := field f.payload 1 2
    let sets (c : Instr) (limit : Limit) (low high replaced : Nat) (u : State) : Prop :=
      ∃ t, exec c s = .next t ∧
        (low ≤ value ∧ value ≤ high →
          s.Answers t p .setLimit f .ok (some (.limitSet limit value replaced)) ∧ OnlyQueued p u t) ∧
        (¬(low ≤ value ∧ value ≤ high) →
          s.Answers t p .setLimit f .badValue none ∧ OnlyQueued p s t)
    let setsLife (c : Instr) := sets c .offerLife 1 1000 s.share.lifetime
      { s with share := { s.share with lifetime := value } }
    let setsHold (c : Instr) := sets c .holdLimit 1 1000 s.holdLimit { s with holdLimit := value }
    let setsError (c : Instr) := sets c .errorLimit 0 255 s.pool.errorThreshold
      { s with pool := { s.pool with errorThreshold := value } }
    let setsReplay (c : Instr) := sets c .replayTimeout 1 100 s.replayTimeout
      { s with replayTimeout := value }
    (field f.payload 0 1 = 1 → setsLife (requestCommand p f .setLimit)) ∧
    (field f.payload 0 1 = 2 → setsHold (requestCommand p f .setLimit)) ∧
    (field f.payload 0 1 = 3 → setsError (requestCommand p f .setLimit)) ∧
    (field f.payload 0 1 = 4 → setsReplay (requestCommand p f .setLimit)) ∧
    setsLife (.setLimitOfferLife p f) ∧ setsHold (.setLimitHoldLimit p f) ∧
    setsError (.setLimitErrorLimit p f) ∧ setsReplay (.setLimitReplayTimeout p f)

/-- DISABLE_PORT, ENABLE_PORT and EVICT_PORT by the holder, for every session state of the named port. -/
def Obligations.DisableEnableAndEvictPort : Prop :=
  ∀ (s : State) (p : Port) (f : RequestFrame), s.role = .held p →
    (s.Accepts p .disablePort f → ∃ t, exec (.disablePort p f) s = .next t ∧
      (4 ≤ field f.payload 0 1 → s.Answers t p .disablePort f .badValue none ∧ OnlyQueued p s t) ∧
      (field f.payload 0 1 = p.val → s.Answers t p .disablePort f .self none ∧ OnlyQueued p s t) ∧
      ∀ q : Port, field f.payload 0 1 = q.val → q ≠ p →
        s.Answers t p .disablePort f .ok (some (.portState q (t.port q).session.state)) ∧
        (s.inSession q = true → OnlyQueued p (s.startTeardown q .disabled) t) ∧
        ((s.port q).session.state = .teardown →
          OnlyQueued p (s.modSession q fun c => { c with disablePending := true }) t) ∧
        ((s.port q).session.state = .closed → OnlyQueued p
          ((s.modSession q fun c => { c with state := .disabled }).raiseNotice p
            (.portState q .disabled (.ended .disabled))) t) ∧
        ((s.port q).session.state = .disabled → OnlyQueued p s t)) ∧
    (s.Accepts p .enablePort f → ∃ t, exec (.enablePort p f) s = .next t ∧
      (4 ≤ field f.payload 0 1 → s.Answers t p .enablePort f .badValue none ∧ OnlyQueued p s t) ∧
      ∀ q : Port, field f.payload 0 1 = q.val →
        ((s.port q).session.state ≠ .disabled →
          s.Answers t p .enablePort f .badValue none ∧ OnlyQueued p s t) ∧
        ((s.port q).session.state = .disabled →
          s.Answers t p .enablePort f .ok (some (.portState q .closed)) ∧
          OnlyQueued p ((s.modSession q fun c => { c with state := .closed }).raiseNotice p
            (.portState q .closed .enabled)) t)) ∧
    (s.Accepts p .evictPort f → ∃ t, exec (.evictPort p f) s = .next t ∧
      (4 ≤ field f.payload 0 1 → s.Answers t p .evictPort f .badValue none ∧ OnlyQueued p s t) ∧
      (field f.payload 0 1 = p.val → s.Answers t p .evictPort f .self none ∧ OnlyQueued p s t) ∧
      ∀ q : Port, field f.payload 0 1 = q.val → q ≠ p →
        (s.inSession q = false →
          s.Answers t p .evictPort f .portClosed none ∧ OnlyQueued p s t) ∧
        (s.inSession q = true →
          s.Answers t p .evictPort f .ok (some (.portState q (t.port q).session.state)) ∧
          OnlyQueued p (s.startTeardown q .evicted) t))

/-! ### The end of a session, and notices -/

/-- The start of a teardown of a port in session, and the end of a teardown. The start keeps the entries IN_MEMORY alone,
removes every offer that names the port, vacates its role, releases every mapping, and ends at once when no entry was
kept. The pool changes by an unpin for each discarded request that had not reached memory, Expedited first, and then by
an unhold for each mapping in page order; the write lines of the discarded WRITEs are freed. The other ports are told of
each removed offer in table order (OFFER_WITHDRAWN OFFERER_GONE or OFFER_DECLINED TARGET_GONE), then of a vacant
role. The end leaves DISABLED when the cause is DISABLED or a disable is pending and CLOSED otherwise, tells the
administrator, and tells the port itself of an eviction or a disable. (Where no cause is recorded, which no end of a
teardown meets, the cause told is CLOSED_BY_HOST: the model's choice, log entry 17.) -/
def Obligations.TeardownEndsTheSession : Prop :=
  (∀ (s : State) (p : Port) (cause : TeardownCause), s.inSession p = true → s.Canonical →
    let t := s.startTeardown p cause
    let kept := (s.port p).requests.entries.filter fun e => e.state == .inMemory
    let disables := cause = .disabled ∨ (s.port p).session.disablePending = true
    let dropped (e : Entry) : Option Translation :=
      if e.state = .waiting ∨ e.state = .presented then e.translation else none
    let ofClass (c : ReqClass) := (s.port p).requests.entries.filter fun e => e.cls == c
    let torn : State := s.modSession p fun x => { x with state := .teardown, cause := some cause }
    let unpinned := ((ofClass .expedited ++ ofClass .ordinary).filterMap dropped).foldl
      (fun u tr => u.unpin tr.frame) torn
    let told := (s.share.offers.filter fun o => o.offering == p || o.target == p).foldl
      (fun u o =>
        if o.offering = p then u.raiseNotice o.target (.offerWithdrawn o.number .offererGone)
        else u.raiseNotice o.offering (.offerDeclined o.number .targetGone)) unpinned
    let vacated :=
      if s.role = .held p then ({ told with role := .vacant }).raiseAdminChanged none else told
    let released := (s.port p).aperture.slots.foldl (fun u x => u.unhold x.2.frame) vacated
    let ended := if kept = [] then released.endTeardown p else released
    t.pool = released.pool ∧
    (∀ q, q ≠ p → (t.port q).transmit = (ended.port q).transmit) ∧
    (t.port p).requests.reservedLines = (s.port p).requests.reservedLines -
      ((((s.port p).requests.entries.filter fun e => e.kind == .write).filterMap dropped).map
        Translation.lineCount).sum ∧
    (t.port p).session.cause = some cause ∧
    (t.port p).session.state =
      (if kept ≠ [] then .teardown else if disables then .disabled else .closed) ∧
    (t.port p).requests.entries = kept ∧
    (t.port p).requests.nextExpedited = (s.port p).requests.nextExpedited ∧
    (t.port p).requests.nextOrdinary = (s.port p).requests.nextOrdinary ∧
    (t.port p).requests.mode = (s.port p).requests.mode ∧
    (t.port p).requests.burstLimit = (s.port p).requests.burstLimit ∧
    (t.port p).aperture = { (s.port p).aperture with slots := [] } ∧
    (t.port p).transmit =
      { (s.port p).transmit with
        refusals := [], lost := 0, burst := 0
        notices := if kept ≠ [] then [] else if disables then [.sessionEnded .disabled]
          else if cause = .evicted then [.sessionEnded .evicted] else [] } ∧
    (t.port p).link = (s.port p).link ∧ (t.port p).sent = (s.port p).sent ∧
    t.share = { s.share with
      offers := s.share.offers.filter fun o => !(o.offering == p || o.target == p) } ∧
    t.role = (if s.role = .held p then .vacant else s.role) ∧
    (∀ q, q ≠ p → (t.port q).link = (s.port q).link ∧ (t.port q).session = (s.port q).session ∧
      (t.port q).requests = (s.port q).requests ∧ (t.port q).aperture = (s.port q).aperture ∧
      (t.port q).sent = (s.port q).sent ∧
      (t.port q).transmit.refusals = (s.port q).transmit.refusals) ∧
    t.scheduler = s.scheduler ∧ t.inFlight = s.inFlight ∧ t.dram = s.dram) ∧
  ∀ (s : State) (p : Port),
    let t := s.endTeardown p
    let c := (s.port p).session
    let disables := c.cause = some .disabled ∨ c.disablePending = true
    let state : SessionState := if disables then .disabled else .closed
    (t.port p).session = { c with state := state, disablePending := false } ∧
    (t.port p).transmit =
      (if disables then (s.port p).transmit.enterNotice (.sessionEnded .disabled)
      else if c.cause = some .evicted then
        (s.port p).transmit.enterNotice (.sessionEnded .evicted)
      else (s.port p).transmit) ∧
    (∀ q, q ≠ p → (t.port q).transmit =
      if s.role = .held q ∧ s.inSession q = true then
        (s.port q).transmit.enterNotice (.portState p state
          (.ended (if disables then .disabled else c.cause.getD .closedByHost)))
      else (s.port q).transmit) ∧
    (∀ q, (t.port q).requests = (s.port q).requests ∧ (t.port q).aperture = (s.port q).aperture ∧
      (t.port q).link = (s.port q).link ∧ (q ≠ p → (t.port q).session = (s.port q).session)) ∧
    t.pool = s.pool ∧ t.share = s.share ∧ t.role = s.role

/-- A notice raised for a port in session joins the tail of its queue while that holds fewer than 16, and otherwise is
dropped and counted, the count saturating at 255; a notice for a port out of session is discarded. One for the
administrator is discarded without a holder, and ADMIN_CHANGED goes to every port in session. -/
def Obligations.NoticeEntryRule : Prop :=
  (∀ (t : TransmitUnit) (n : Notice), t.enterNotice n =
    if t.notices.length < 16 then { t with notices := t.notices ++ [n] }
    else { t with lost := min 255 (t.lost + 1) }) ∧
  ∀ (s : State) (n : Notice),
    (∀ p, (s.inSession p = false → s.raiseNotice p n = s) ∧
      (s.inSession p = true → (s.port p).transmit.notices.length < 16 →
        s.raiseNotice p n = s.modTransmit p fun t => { t with notices := t.notices ++ [n] }) ∧
      (s.inSession p = true → 16 ≤ (s.port p).transmit.notices.length →
        s.raiseNotice p n = s.modTransmit p fun t => { t with lost := min 255 (t.lost + 1) })) ∧
    (∀ p, s.role = .held p → s.raiseForAdmin n = s.raiseNotice p n) ∧
    ((∀ p, s.role ≠ .held p) → s.raiseForAdmin n = s) ∧
    ∀ (h : Option Port) (q : Port),
      ((s.raiseAdminChanged h).port q).transmit =
        ((s.raiseNotice q (.adminChanged h)).port q).transmit

/-! ### Frames of the pool -/

/-- What an unhold and an unpin claim do to a HELD or PARKED frame: with a holder left it stays HELD, with pins left and
no holder it is PARKED, and with neither it is RETIRED (and counted, and its DRAINING region RETIRED with its last
frame, of which the administrator is told) when it is poisoned or its region is DRAINING, and otherwise SCRUBBING at the
tail of the scrub queue, which the Scrubber follows. -/
def Obligations.ClaimsSettleTheFrame : Prop :=
  ∀ (s : State) (f : Nat), s.Canonical →
    let r := s.frame f
    let disposed (t : State) : Prop :=
      t = { s with pool := t.pool, ports := t.ports } ∧
      t.pool.errorThreshold = s.pool.errorThreshold ∧
      (∀ x, x ≠ f → t.frame x = s.frame x) ∧ t.pool.freeList = s.pool.freeList ∧
      (r.poisoned = true ∨ s.regionIs f .draining = true →
        t.frame f = { r with state := .retired, holders := 0, pins := 0, originator := none } ∧
        t.pool.scrubQueue = s.pool.scrubQueue ∧ t.pool.scrub = s.pool.scrub ∧
        ((∀ k, s.regionSlot f = some k → (s.region k).state = .draining →
          (t.region k).state ≠ .retired) → t.ports = s.ports) ∧
        (s.regionSlot f = none → t.pool.regions = s.pool.regions) ∧
        ∀ k, s.regionSlot f = some k →
          (∀ j, j ≠ k → t.region j = s.region j) ∧
          ((s.region k).state = .draining → (t.region k).state = .retired →
            t.ports = (s.raiseForAdmin (.regionState k .retired (s.region k).cause)).ports) ∧
          t.region k =
            { s.region k with
              state := (t.region k).state, retired := (s.region k).retired + 1 } ∧
          ((t.region k).state = .retired ∨ (t.region k).state = (s.region k).state) ∧
          ((s.region k).state ≠ .draining → (t.region k).state = (s.region k).state) ∧
          ((s.region k).state = .draining →
            ((t.region k).state = .retired ↔ ∀ x, x ≠ f → s.inRegion k x = true →
              (s.frame x).state ≠ .held ∧ (s.frame x).state ≠ .parked))) ∧
      (r.poisoned = false → s.regionIs f .draining = false →
        t.frame f = { r with state := .scrubbing, holders := 0, pins := 0, originator := none } ∧
        t.pool.scrubQueue = s.pool.scrubQueue ++ [f] ∧
        ScrubFollows s.pool.scrub t.pool.scrubQueue t.pool.scrub ∧
        t.pool.regions = s.pool.regions ∧ t.ports = s.ports)
    (r.state = .held →
      (2 ≤ r.holders → s.unhold f = s.setFrame f { r with holders := r.holders - 1 }) ∧
      (r.holders = 1 → 1 ≤ r.pins →
        s.unhold f = s.setFrame f { r with holders := 0, state := .parked }) ∧
      (r.holders = 1 → r.pins = 0 → disposed (s.unhold f)) ∧
      (1 ≤ r.holders → 1 ≤ r.pins → s.unpin f = s.setFrame f { r with pins := r.pins - 1 })) ∧
    (r.state = .parked → r.holders = 0 →
      (2 ≤ r.pins → s.unpin f = s.setFrame f { r with pins := r.pins - 1 }) ∧
      (r.pins = 1 → disposed (s.unpin f)))

/-- The error accounting of a READ completion: a clean one changes nothing, a corrected one raises the corrected count of
the frame's region, an uncorrectable one poisons the frame (with one notice for the administrator) and raises the
uncorrectable count, and the drain starts exactly when that count comes to a threshold that is not 0 and the region is
ONLINE. -/
def Obligations.ReadErrorsAreAccounted : Prop :=
  ∀ (s : State) (f : Nat),
    s.accountRead f .clean = s ∧
    (s.regionSlot f = none → s.accountRead f .corrected = s) ∧
    (∀ k, s.regionSlot f = some k → s.accountRead f .corrected =
      s.modRegion k fun r => { r with corrected := min 65535 (r.corrected + 1) }) ∧
    let poisoned : State :=
      if (s.frame f).poisoned then s
      else (s.setFrame f { s.frame f with poisoned := true }).raiseForAdmin
        (.framePoisoned f (s.regionSlot f))
    (s.regionSlot f = none → s.accountRead f .uncorrectable = poisoned) ∧
    ∀ k, s.regionSlot f = some k →
      let n := (s.region k).uncorrectable
      let counted := poisoned.modRegion k fun r => { r with uncorrectable := r.uncorrectable + 1 }
      let drains := n + 1 = s.pool.errorThreshold ∧ s.pool.errorThreshold ≠ 0 ∧
        (s.region k).state = .online
      (255 ≤ n → s.accountRead f .uncorrectable = poisoned) ∧
      (n < 255 → drains → s.accountRead f .uncorrectable = counted.startDrain k .threshold) ∧
      (n < 255 → ¬drains → s.accountRead f .uncorrectable = counted)

/-! ### Presentation, grants and completions -/

/-- Which entry a Request Unit presents: none while it has one presented or in TEARDOWN; otherwise the oldest PENDING data
entry of the Expedited class if it is eligible, else that of the Ordinary class if it is, else none. Eligible means: no
older entry of its class PENDING, no older FENCE or CLOSE that is not DONE, in ARRIVAL mode no older entry of the other
class PENDING, and in PRIORITY mode no older data entry of the other class on the same frame that has not completed,
one of the two being a WRITE. -/
def Obligations.PresentationFollowsTheOrderingRules : Prop :=
  ∀ (r : RequestUnit) (session : SessionState),
    let shown := r.present session
    let pendingData (e : Entry) : Prop := e.state = .waiting ∧ e.translation.isSome = true
    let candidate (c : ReqClass) (older : List Entry) (e : Entry) (younger : List Entry) : Prop :=
      r.entries = older ++ e :: younger ∧ e.cls = c ∧ pendingData e ∧
      ∀ o ∈ older, ¬(o.cls = c ∧ pendingData o)
    let conflict (a b : Entry) : Prop :=
      (∃ t u, a.translation = some t ∧ b.translation = some u ∧ t.frame = u.frame) ∧
      (a.kind = .write ∨ b.kind = .write)
    let eligible (older : List Entry) (e : Entry) : Prop :=
      (∀ o ∈ older, ¬(o.cls = e.cls ∧ o.state = .waiting)) ∧
      (∀ o ∈ older, (o.kind = .fence ∨ o.kind = .closeSession) → o.state = .done) ∧
      (r.mode = .arrival → ∀ o ∈ older, ¬(o.cls ≠ e.cls ∧ o.state = .waiting)) ∧
      (r.mode = .priority → ∀ o ∈ older, o.cls ≠ e.cls → o.state ≠ .done → ¬conflict o e)
    let presents (older : List Entry) (e : Entry) (younger : List Entry) : Prop :=
      shown = { r with entries := older ++ { e with state := .presented } :: younger }
    (session = .teardown ∨ (∃ e ∈ r.entries, e.state = .presented) → shown = r) ∧
    (session ≠ .teardown → (∀ e ∈ r.entries, e.state ≠ .presented) →
      (∀ older e younger, candidate .expedited older e younger → eligible older e →
        presents older e younger) ∧
      ((∀ older e younger, candidate .expedited older e younger → ¬eligible older e) →
        (∀ older e younger, candidate .ordinary older e younger → eligible older e →
          presents older e younger) ∧
        ((∀ older e younger, candidate .ordinary older e younger → ¬eligible older e) →
          shown = r)))

/-- What each participant has presented: a port the operation made from its presented entry, READ_LINES or WRITE_LINES by
its kind, with the frame and the lines of its translation; the Scrubber the eight zero lines of its presented block. The
rotation order after each participant: port 0, 1, 2, 3, the Scrubber, then port 0. A grant with the channel IDLE: the turn continues while the holder presents and its count is below its weight;
otherwise the next participant in rotation order that presents gets the turn. The operation is in flight, its lines are
counted, and its participant is told. With the channel BUSY, or nothing presented, nothing changes: the model's
choice for a grant that cannot occur, log entry 5. -/
def Obligations.GrantFollowsTheRotation : Prop :=
  (∀ before x after,
    [Participant.port 0, .port 1, .port 2, .port 3, .scrubber] = before ++ x :: after →
      rotationAfter x = after ++ before ++ [x]) ∧
  (∀ (s : State) (p : Port),
    ((∀ e ∈ (s.port p).requests.entries, e.state ≠ .presented) → s.presentedOp (.port p) = none) ∧
    ∀ older e younger tr, (s.port p).requests.entries = older ++ e :: younger →
      e.state = .presented → (∀ y ∈ older, y.state ≠ .presented) → e.translation = some tr →
      let operation (kind : OpKind) : Operation :=
        { participant := .port p, kind := kind, frame := tr.frame, firstLine := tr.firstLine,
          lineCount := tr.lineCount }
      (e.kind = .read → s.presentedOp (.port p) = some (operation .readLines)) ∧
      (e.kind = .write → s.presentedOp (.port p) = some (operation .writeLines))) ∧
  (∀ s : State,
    (∀ f b, s.pool.scrub.op = .presented f b → s.presentedOp .scrubber =
      some { participant := .scrubber, kind := .zeroLines, frame := f, firstLine := 8 * b,
             lineCount := 8 }) ∧
    ((∀ f b, s.pool.scrub.op ≠ .presented f b) → s.presentedOp .scrubber = none)) ∧
  ∀ s : State, s.resetLow = false →
    let c := s.scheduler
    let continues := s.presentedOp c.holder ≠ none ∧ c.turnLines < c.weight c.holder
    let granted (x : Participant) (o : Operation) (lines : Nat) : Prop :=
      ∃ t, exec .grant s = .next t ∧ t.inFlight = some o ∧
        t.scheduler = { c with holder := x, turnLines := lines } ∧
        (∀ p, x = .port p →
          (∀ q, q ≠ p → t.port q = s.port q) ∧ t.pool = s.pool ∧
          ∀ older e younger, (s.port p).requests.entries = older ++ e :: younger →
            e.state = .presented → (∀ y ∈ older, y.state ≠ .presented) →
            t = ({ s with inFlight := some o, scheduler := t.scheduler }).modRequests p fun r =>
              ({ r with entries := older ++ { e with state := .inMemory } :: younger }).present
                (s.port p).session.state) ∧
        (x = .scrubber → ∀ f b, s.pool.scrub.op = .presented f b →
          t = { s with
            inFlight := some o, scheduler := t.scheduler
            pool := { s.pool with scrub := { s.pool.scrub with op := .inMemory f b } } })
    (s.inFlight ≠ none → exec .grant s = .next s) ∧
    (s.inFlight = none → (∀ x, s.presentedOp x = none) → exec .grant s = .next s) ∧
    (s.inFlight = none →
      (∀ o, continues → s.presentedOp c.holder = some o →
        granted c.holder o (c.turnLines + o.lineCount)) ∧
      ∀ (before : List Participant) (x : Participant) (rest : List Participant) (o : Operation),
        ¬continues → rotationAfter c.holder = before ++ x :: rest →
        (∀ y ∈ before, s.presentedOp y = none) → s.presentedOp x = some o →
        granted x o o.lineCount)

/-- A READ_LINES completion: the channel is IDLE, the worst condition among the lines decides; the frame's error
accounting comes before its unpin; and then out of TEARDOWN the entry is DONE with the bytes of the frame, or with
DATA_ERROR and none, the barrier step and the next presentation follow; in TEARDOWN the entry is discarded,
and the teardown ends with the last one. All else is as the accounting and the unpin leave it. Nothing is
written: a line that needed correction keeps its error, so that a later read is corrected again. (What the check finds
anew is the report of the command, and a line without a report shows no new error: the model's choice, log entry 8. That
an uncorrectable error stays too, and that a line holds the bytes that passed unseen, is the model's reading, log entry
27.) -/
def Obligations.ReadCompletionReturnsTheBytes : Prop :=
  (∀ (d : Dram) (l : Nat), d.flaw l = Sparse.get d.flaws l ∧
    (d.isFitted l = true ↔ ∃ span ∈ d.fitted, span.1 ≤ l ∧ l < span.2)) ∧
  ∀ (s : State) (p : Port) (o : Operation) (reports : List LineReport) (older younger : List Entry)
    (e : Entry) (tr : Translation), s.resetLow = false → s.Canonical → s.inFlight = some o →
    o.participant = .port p → o.kind = .readLines →
    (s.port p).requests.entries = older ++ e :: younger → e.state = .inMemory →
    (∀ x ∈ older, x.state ≠ .inMemory) → e.translation = some tr →
    let line (i : Nat) : Nat := o.frame * 2048 + o.firstLine + i
    let report (i : Nat) : LineReport := reports.getD i .clean
    let bad (i : Nat) : Prop := s.dram.isFitted (line i) = false ∨
      s.dram.flaw (line i) = some .marker ∨ s.dram.flaw (line i) = some .uncorrectable ∨
      report i = .uncorrectable
    let corrected (i : Nat) : Prop := ¬bad i ∧
      (report i = .corrected ∨ (s.dram.flaw (line i) = some .correctable ∧ report i = .clean))
    let worst : ReadClass → Prop := fun c =>
      (c = .uncorrectable ↔ ∃ i, i < o.lineCount ∧ bad i) ∧
      (c = .clean ↔ ∀ i, i < o.lineCount → ¬bad i ∧ ¬corrected i)
    ∃ (t : State) (c : ReadClass), exec (.readLinesCompletion reports) s = .next t ∧ worst c ∧ t.inFlight = none ∧
      t.dram.fitted = s.dram.fitted ∧
      (∀ l, l < line 0 ∨ line o.lineCount ≤ l → t.dram.flaw l = s.dram.flaw l) ∧
      (∀ i, i < o.lineCount →
        (s.dram.isFitted (line i) = false → t.dram.flaw (line i) = s.dram.flaw (line i)) ∧
        (s.dram.isFitted (line i) = true → bad i → t.dram.flaw (line i) =
          if s.dram.flaw (line i) = some .marker then some .marker else some .uncorrectable) ∧
        (corrected i → t.dram.flaw (line i) = some .correctable) ∧
        (¬bad i → ¬corrected i → t.dram.flaw (line i) = none)) ∧
      (∀ a, (∀ i bytes, i < o.lineCount → a / 32 = line i → ¬bad i → report i ≠ .unseen bytes) →
        Sparse.get t.dram.bytes a = Sparse.get s.dram.bytes a) ∧
      (∀ i bytes, i < o.lineCount → ¬bad i → report i = .unseen bytes → bytes.length = 32 →
        ∀ j, j < 32 → Sparse.get t.dram.bytes (32 * line i + j) = bytes[j]?) ∧
      t.scheduler = s.scheduler ∧ t.now = s.now ∧
      (∀ q, q ≠ p → (t.port q).requests = (s.port q).requests ∧ (t.port q).link = (s.port q).link ∧
        (t.port q).session = (s.port q).session ∧ (t.port q).aperture = (s.port q).aperture) ∧
      t.pool = ((s.accountRead o.frame c).unpin o.frame).pool ∧ t.share = s.share ∧
      t.role = s.role ∧
      let accounted : State :=
        (({ s with inFlight := none, dram := t.dram, freeIndex := t.freeIndex }).accountRead o.frame
          c).unpin o.frame
      ((s.port p).session.state = .teardown →
        let discarded := accounted.modRequests p fun r => { r with entries := older ++ younger }
        (older ++ younger ≠ [] → t = discarded) ∧
        (older ++ younger = [] → t = discarded.endTeardown p) ∧
        (t.port p).requests.entries = older ++ younger) ∧
      ((s.port p).session.state ≠ .teardown →
        t = (accounted.modRequests p fun _ => (t.port p).requests) ∧
        ∃ data : List Byte,
          (t.port p).requests = ({ (s.port p).requests with
            entries := barrierStep true (older ++
              (if c = ReadClass.uncorrectable then
                { e with state := .done, result := some .dataError, readData := none }
              else { e with state := .done, result := some .ok, readData := some data }) ::
              younger) }).present (s.port p).session.state ∧
          data.length = tr.length ∧
          ∀ i l b, i < tr.length → l < o.lineCount → line 0 = tr.frame * 2048 + tr.firstLine →
            let address := tr.frame * 65536 + tr.firstByte + i
            address / 32 = line l → ¬bad l → Sparse.get t.dram.bytes address = some b →
            data[i]? = some b)

/-- A WRITE_LINES completion: the channel is IDLE, the named bytes are in memory wherever DRAM is fitted, every byte
outside the lines of the operation is unchanged, a line of which not all bytes are named keeps the others when it could
be read and gets the marker when it could not, and every other written line has check bits that match; the frame is
unpinned, the write lines are freed, out of TEARDOWN the entry is DONE with OK, and in TEARDOWN it is discarded, which ends
the teardown with the last one; all else is as the unpin leaves it. (What the model settles itself: the
other bytes of a line that could not be read become undefined, log entry 18; a line without DRAM stores nothing, log
entry 7; a line without a report shows no new error, log entry 8.) -/
def Obligations.WriteCompletionStoresTheNamedBytes : Prop :=
  ∀ (s : State) (p : Port) (o : Operation) (reports : List LineReport) (older younger : List Entry)
    (e : Entry) (tr : Translation) (data : List Byte), s.resetLow = false → s.Canonical →
    s.inFlight = some o → o.participant = .port p → o.kind = .writeLines →
    (s.port p).requests.entries = older ++ e :: younger → e.state = .inMemory →
    (∀ x ∈ older, x.state ≠ .inMemory) → e.translation = some tr → e.writeData = some data →
    let first := o.frame * 2048 + o.firstLine
    let covered (l : Nat) : Prop := first ≤ l ∧ l < first + o.lineCount
    let start := tr.frame * 65536 + tr.firstByte
    let named (a : Nat) : Prop := start ≤ a ∧ a < start + data.length
    let report (l : Nat) : LineReport := reports.getD (l - first) .clean
    let bad (l : Nat) : Prop := s.dram.flaw l = some .marker ∨
      s.dram.flaw l = some .uncorrectable ∨ report l = .uncorrectable
    ∃ t, exec (.writeLinesCompletion reports) s = .next t ∧ t.inFlight = none ∧
      t.scheduler = s.scheduler ∧ t.now = s.now ∧ t.dram.fitted = s.dram.fitted ∧
      (∀ a, ¬covered (a / 32) ∨ s.dram.isFitted (a / 32) = false →
        Sparse.get t.dram.bytes a = Sparse.get s.dram.bytes a) ∧
      (∀ l, ¬covered l ∨ s.dram.isFitted l = false → t.dram.flaw l = s.dram.flaw l) ∧
      (∀ a, covered (a / 32) → s.dram.isFitted (a / 32) = true →
        (named a → Sparse.get t.dram.bytes a = data[a - start]?) ∧
        (¬named a → bad (a / 32) → Sparse.get t.dram.bytes a = none) ∧
        (¬named a → ¬bad (a / 32) → (∀ bytes, report (a / 32) ≠ .unseen bytes) →
          Sparse.get t.dram.bytes a = Sparse.get s.dram.bytes a)) ∧
      (∀ l, covered l → s.dram.isFitted l = true →
        (bad l → (∃ a, a / 32 = l ∧ ¬named a) → t.dram.flaw l = some .marker) ∧
        (¬(bad l ∧ ∃ a, a / 32 = l ∧ ¬named a) → t.dram.flaw l = none)) ∧
      (∀ q, q ≠ p → (t.port q).requests = (s.port q).requests ∧ (t.port q).link = (s.port q).link ∧
        (t.port q).session = (s.port q).session ∧ (t.port q).aperture = (s.port q).aperture) ∧
      t.pool = (s.unpin o.frame).pool ∧ t.share = s.share ∧ t.role = s.role ∧
      (t.port p).requests.reservedLines = (s.port p).requests.reservedLines - o.lineCount ∧
      let unpinned : State := ({ s with inFlight := none, dram := t.dram }).unpin o.frame
      ((s.port p).session.state = .teardown →
        let discarded := unpinned.modRequests p fun r =>
          { r with entries := older ++ younger, reservedLines := r.reservedLines - o.lineCount }
        (older ++ younger ≠ [] → t = discarded) ∧
        (older ++ younger = [] → t = discarded.endTeardown p) ∧
        (t.port p).requests.entries = older ++ younger) ∧
      ((s.port p).session.state ≠ .teardown →
        t = (unpinned.modRequests p fun _ => (t.port p).requests) ∧
        (t.port p).requests = ({ (s.port p).requests with
          reservedLines := (s.port p).requests.reservedLines - o.lineCount
          entries := barrierStep true (older ++
            { e with state := .done, result := some .ok, writeData := none } :: younger) }).present
              (s.port p).session.state)

/-- A ZERO_LINES completion: the channel is IDLE, the bytes of the lines are zero and their flaws and markers gone wherever
DRAM is fitted (that nothing is stored elsewhere is the model's choice, log entry 7), and nothing else in memory changes.
Of the head frame the block is counted and the next one presented, and with the 256th the frame is FREE at the tail of
the free list and the next head is presented from its first block on; of another frame the completion is discarded, and
the present head is presented at once. -/
def Obligations.ZeroCompletionScrubs : Prop :=
  ∀ (s : State) (o : Operation), s.resetLow = false → s.Canonical → s.inFlight = some o →
    o.participant = .scrubber → o.kind = .zeroLines →
    let first := o.frame * 2048 + o.firstLine
    let covered (l : Nat) : Prop := first ≤ l ∧ l < first + o.lineCount
    ∃ t, exec .zeroLinesCompletion s = .next t ∧ t.inFlight = none ∧
      (∀ a, ¬covered (a / 32) ∨ s.dram.isFitted (a / 32) = false →
        Sparse.get t.dram.bytes a = Sparse.get s.dram.bytes a) ∧
      (∀ a, covered (a / 32) → s.dram.isFitted (a / 32) = true →
        Sparse.get t.dram.bytes a = some 0) ∧
      (∀ l, ¬covered l ∨ s.dram.isFitted l = false → t.dram.flaw l = s.dram.flaw l) ∧
      (∀ l, covered l → s.dram.isFitted l = true → t.dram.flaw l = none) ∧
      t = { s with inFlight := none, dram := t.dram, pool := t.pool } ∧
      t.dram.fitted = s.dram.fitted ∧
      t.pool.regions = s.pool.regions ∧ t.pool.errorThreshold = s.pool.errorThreshold ∧
      (s.pool.scrub.head = some o.frame → s.pool.scrub.head = s.pool.scrubQueue.head? →
        (s.pool.scrub.done + 1 ≠ 256 →
          t.pool.scrubQueue = s.pool.scrubQueue ∧ t.pool.freeList = s.pool.freeList ∧
          t.pool.frames = s.pool.frames ∧
          t.pool.scrub = { head := some o.frame, done := s.pool.scrub.done + 1,
                           op := .presented o.frame (s.pool.scrub.done + 1) }) ∧
        (s.pool.scrub.done + 1 = 256 →
          t.pool.freeList = s.pool.freeList ++ [o.frame] ∧
          t.pool.scrubQueue = s.pool.scrubQueue.drop 1 ∧
          t.frame o.frame = { s.frame o.frame with state := .free } ∧
          (∀ x, x ≠ o.frame → t.frame x = s.frame x) ∧
          t.pool.scrub.head = t.pool.scrubQueue.head? ∧
          (t.pool.scrubQueue.head? ≠ some o.frame → t.pool.scrub.done = 0 ∧
            t.pool.scrub.op = match t.pool.scrubQueue.head? with
              | some f => .presented f 0
              | none => .idle))) ∧
      (s.pool.scrub.head ≠ some o.frame → s.pool.scrub.head = s.pool.scrubQueue.head? →
        t.pool.freeList = s.pool.freeList ∧ t.pool.scrubQueue = s.pool.scrubQueue ∧
        t.pool.frames = s.pool.frames ∧ t.pool.scrub.head = s.pool.scrub.head ∧
        t.pool.scrub.done = s.pool.scrub.done ∧
        t.pool.scrub.op = match s.pool.scrub.head with
          | some f => .presented f s.pool.scrub.done
          | none => .idle)

/-! ### Transmission -/

/-- Which source supplies the next new sequenced frame: an Ordinary reply whose burst turn is due, then a refusal, a
notice, an Expedited reply, an Ordinary reply. A reply is ready when the head of its class queue is DONE, and an
Ordinary one only with the hold clear. -/
def Obligations.SourcesInOrder : Prop :=
  ∀ q : PortState,
    let head (c : ReqClass) : Option Entry := (q.requests.entries.filter fun e => e.cls == c).head?
    let ready (c : ReqClass) (e : Entry) : Prop :=
      head c = some e ∧ e.state = .done ∧ (c = .ordinary → q.transmit.hold = false)
    let due := q.requests.burstLimit ≤ q.transmit.burst
    (∀ e, due → ready .ordinary e → q.source = some (.reply e)) ∧
    (¬(due ∧ ∃ e, ready .ordinary e) →
      (∀ r rest, q.transmit.refusals = r :: rest → q.source = some (.refusal r)) ∧
      (q.transmit.refusals = [] →
        (∀ n rest, q.transmit.notices = n :: rest → q.source = some (.notice n)) ∧
        (q.transmit.notices = [] →
          (∀ e, ready .expedited e → q.source = some (.reply e)) ∧
          ((∀ e, ¬ready .expedited e) →
            (∀ e, ready .ordinary e → q.source = some (.reply e)) ∧
            ((∀ e, ¬ready .ordinary e) → q.source = none)))))

/-- TRANSMIT_CHOICE with the link UP, no retransmission, a free replay slot and no link-control frame pending: the frame
of the chosen source gets the next sequence number and a replay slot and is sent, and the source gives it up; the reply
of a CLOSE starts the teardown. Without those conditions, or with no source, nothing changes. (That the choice waits for
pending link-control frames inside the command is the model's reading, log entry 13.) -/
def Obligations.TransmitChoiceHandsOneFrameOver : Prop :=
  ∀ (s : State) (p : Port), s.resetLow = false →
    let l := (s.port p).link
    let r := (s.port p).requests
    let open' := l.state = .up ∧ l.retransmit = none ∧ l.replay.length < 32 ∧
      l.helloPending = false ∧ l.pendingNak = none ∧ l.pendingAck = none
    let handedOver (f : LinkFrame) (u : State) : State := u.modPort p fun q =>
      { q with
        sent := q.sent ++ [f]
        link := { q.link with
          replay := q.link.replay ++ [f], nextOut := q.link.nextOut + 1
          replayTimer := if q.link.replay = [] then some (s.now + ticks s.replayTimeout)
            else q.link.replayTimer } }
    (¬open' ∨ (s.port p).source = none → exec (.transmitChoice p) s = .next s) ∧
    (open' →
      (∀ x, (s.port p).source = some (.refusal x) →
        exec (.transmitChoice p) s = .next (handedOver
          { kind := 0x81, seq := l.nextOut, flags := if x.cls = .expedited then 1 else 0,
            mark := x.mark, byte6 := x.seq, byte7 := x.reason.code, payload := [] }
          (s.modTransmit p fun t => { t with refusals := t.refusals.drop 1 }))) ∧
      (∀ n, (s.port p).source = some (.notice n) →
        exec (.transmitChoice p) s = .next (handedOver
          { kind := 0x82, seq := l.nextOut, flags := 0,
            mark := BitVec.ofNat 8 (s.port p).transmit.lost, byte6 := 0, byte7 := n.code,
            payload := n.bytes }
          (s.modTransmit p fun t => { t with notices := t.notices.drop 1, lost := 0 }))) ∧
      (∀ e result, (s.port p).source = some (.reply e) → e.result = some result →
        ∀ older younger, r.entries = older ++ e :: younger → (∀ x ∈ older, x.cls ≠ e.cls) →
        let sentReply := handedOver
          { kind := 0x80, seq := l.nextOut, flags := if e.cls = .expedited then 1 else 0,
            mark := e.mark, byte6 := e.number, byte7 := result.code,
            payload := if result = .ok then e.replyBytes else [] }
          ((s.modRequests p fun r => { r with entries := older ++ younger }).modTransmit p fun t =>
            { t with
              burst := if e.cls = .ordinary then 0
                else if (decide (t.hold = false) &&
                    ((r.entries.filter fun x => x.cls == .ordinary).head?.any fun x =>
                      x.state == .done)) then t.burst + 1
                else t.burst })
        (¬(e.kind = .closeSession ∧ (s.port p).session.state = .closing) →
          exec (.transmitChoice p) s = .next sentReply) ∧
        (e.kind = .closeSession → (s.port p).session.state = .closing →
          exec (.transmitChoice p) s = .next (sentReply.startTeardown p .closedByHost))))

/-- RETRANSMIT resends the frame at the position unchanged and moves the position to the next buffered frame, or ends the
retransmission with the newest; the three link-control frames are sent in the order LINK_HELLO outside UP, LINK_NAK and
LINK_ACK in UP, each once, with no sequence number and no replay slot. (That each command checks the precedence itself,
and changes nothing where another frame goes first or there is nothing to send, is the model's reading and choice, log
entries 13 and 5.) -/
def Obligations.LinkFramesSentAgainAndControlFrames : Prop :=
  ∀ (s : State) (p : Port), s.resetLow = false →
    let l := (s.port p).link
    let sends (f : LinkFrame) (change : LinkUnit → LinkUnit) : State := s.modPort p fun q =>
      { q with link := change q.link, sent := q.sent ++ [f] }
    let control (kind flags byte6 : Byte) : LinkFrame :=
      { kind := kind, seq := 0, flags := flags, mark := 0, byte6 := byte6, byte7 := 0, payload := [] }
    let quietLine := l.helloPending = false ∧ l.pendingNak = none ∧ l.pendingAck = none
    (∀ older f younger, l.state = .up → quietLine → l.replay = older ++ f :: younger →
      (∀ g ∈ older, g.seq ≠ f.seq) → l.retransmit = some f.seq →
      exec (.retransmit p) s = .next (sends f fun l =>
        { l with retransmit := younger.head?.map LinkFrame.seq })) ∧
    (l.state ≠ .up ∨ ¬quietLine ∨ l.retransmit = none → exec (.retransmit p) s = .next s) ∧
    ((l.state = .aligning ∨ l.state = .answering) → l.helloPending = true →
      exec (.sendLinkHello p) s = .next (sends (control 0x01 (if l.state = .answering then 2 else 0) 0)
        fun l => { l with helloPending := false })) ∧
    (l.helloPending = false ∨ l.state = .up ∨ l.state = .offline →
      exec (.sendLinkHello p) s = .next s) ∧
    (∀ v, l.state = .up → l.pendingNak = some v →
      exec (.sendLinkNak p) s = .next (sends (control 0x03 0 v) fun l =>
        { l with pendingNak := none }) ∧
      exec (.sendLinkAck p) s = .next s) ∧
    (l.state ≠ .up ∨ l.pendingNak = none → exec (.sendLinkNak p) s = .next s) ∧
    (∀ v, l.state = .up → l.pendingNak = none → l.pendingAck = some v →
      exec (.sendLinkAck p) s = .next (sends (control 0x02 0 v) fun l =>
        { l with pendingAck := none })) ∧
    (l.state ≠ .up ∨ l.pendingAck = none → exec (.sendLinkAck p) s = .next s)

/-! ### Timers -/

/-- The timers: a HELLO falls due and the next one 1 ms later; the replay timer's first three expiries in a row count and
resend the whole buffer; the hold timer's expiry raises HOLD_OVERDUE once; an offer's expiry removes the record and tells
both parties. Without a running timer, or a record, nothing changes. (The model's choices: an expiry takes the clock to
its time, log entry 4; the next HELLO is due 1 ms after the time the last one was due, log entry 23; an expiry of a
stopped timer, or of a record that is gone, changes nothing, log entry 5.) -/
def Obligations.TimersExpire : Prop :=
  ∀ (s : State), s.resetLow = false →
    let at' (time : Nat) : State := { s with now := max s.now time }
    (∀ p, (s.port p).link.helloTimer = none → exec (.helloTimerExpiry p) s = .next s) ∧
    (∀ p due, (s.port p).link.helloTimer = some due →
      exec (.helloTimerExpiry p) s = .next ((at' due).modLink p fun l =>
        { l with helloPending := true, helloTimer := some (due + ticks 1) })) ∧
    (∀ p, (s.port p).link.replayTimer = none → exec (.replayTimerExpiry p) s = .next s) ∧
    (∀ p time, (s.port p).link.replayTimer = some time → (s.port p).link.timeouts ≤ 2 →
      exec (.replayTimerExpiry p) s = .next ((at' time).modLink p fun l =>
        { l with
          timeouts := l.timeouts + 1, retransmit := l.replay.head?.map LinkFrame.seq
          replayTimer := some (max s.now time + ticks s.replayTimeout) })) ∧
    (∀ p, (s.port p).transmit.holdTimer = none → exec (.holdTimerExpiry p) s = .next s) ∧
    (∀ p time, (s.port p).transmit.holdTimer = some time →
      ((s.port p).transmit.hold = true → (s.port p).transmit.overdueSent = false →
        exec (.holdTimerExpiry p) s = .next (((at' time).modTransmit p fun t =>
          { t with holdTimer := none, overdueSent := true }).raiseNotice p .holdOverdue)) ∧
      ((s.port p).transmit.hold = false ∨ (s.port p).transmit.overdueSent = true →
        exec (.holdTimerExpiry p) s = .next ((at' time).modTransmit p fun t =>
          { t with holdTimer := none }))) ∧
    (∀ n, (∀ o ∈ s.share.offers, o.number ≠ n) → exec (.offerExpiry n) s = .next s) ∧
    (∀ n o, s.share.offers.find? (fun o => o.number == n) = some o →
      exec (.offerExpiry n) s = .next
        ((({ at' o.deadline with
            share := { s.share with offers := s.share.offers.filter fun x => x.number != n } }
          ).raiseNotice o.offering (.offerExpired n)).raiseNotice o.target (.offerExpired n)))

/-! ### What a host's frame leaves alone -/

/-- No sequenced frame of a host, whatever becomes of it, changes the DRAM, the operation in flight, the turn of the
Memory Scheduler, the time, the reset pin, the frames sent on any port, or the link of another port. -/
def Obligations.HostFramesLeaveMemoryAndOtherLinksAlone : Prop :=
  ∀ (c : Instr) (p : Port) (k : Byte) (f : RequestFrame) (s t : State),
    c.sequenced = some (p, k, f) → exec c s = .next t →
    t.dram = s.dram ∧ t.inFlight = s.inFlight ∧ t.scheduler.holder = s.scheduler.holder ∧
    t.scheduler.turnLines = s.scheduler.turnLines ∧ t.now = s.now ∧ t.freeIndex = s.freeIndex ∧
    t.resetLow = s.resetLow ∧ t.pending = s.pending ∧
    (∀ q, (t.port q).sent = (s.port q).sent) ∧
    ∀ q, q ≠ p → (t.port q).link = (s.port q).link ∧
      (t.port q).transmit.refusals = if s.inSession q = true ∧ t.inSession q = false then []
        else (s.port q).transmit.refusals

/-! ### What every step keeps -/

/-- Every value stays in the range the spec's tables give it: queues, counters, limits, quotas and mapped counts, page
numbers, weights and the turn line count. In such a state whose pool is accounted for (which every step keeps,
StepKeepsThePoolAccounted) holders are at most 4, pins at most 80, a retired count is at most the region's size, and
mapped frames are frames of the part. -/
def Obligations.StepKeepsValuesInRange : Prop :=
  let inRange (s : State) : Prop := (∀ p, (s.port p).WithinBounds) ∧ s.LimitsInRange ∧
    s.QuotasKept ∧ s.SchedulerInRange ∧ s.PagesInRange
  (∀ s t : State, step s = .next t → inRange s → inRange t) ∧
  ∀ s : State, inRange s → s.PoolAccounted → s.FramesInRange

/-- Every replay buffer holds consecutive sequence numbers that end one before the next outbound sequence, its timer runs
exactly while it holds a frame, and the retransmission position names a buffered frame. -/
def Obligations.StepKeepsReplayInOrder : Prop :=
  ∀ s t : State, step s = .next t → (∀ p, (s.port p).link.ReplayInOrder) →
    ∀ p, (t.port p).link.ReplayInOrder

/-- Memory and every other sparse table keep their canonical form; the role is held by a port in session only; a disable
is pending in a teardown only; a port out of session maps nothing and has no entry but those its teardown waits for. -/
def Obligations.StepKeepsSessionsInOrder : Prop :=
  ∀ s t : State, step s = .next t →
    (s.Canonical ∧ s.HolderInSession ∧ s.DisablePendingInTeardown ∧ s.OutOfSessionIsEmpty) →
    t.Canonical ∧ t.HolderInSession ∧ t.DisablePendingInTeardown ∧ t.OutOfSessionIsEmpty

/-- Every port has one presented entry at most, the entries IN_MEMORY are those of the operation in flight, and the
reserved write lines are those its unfinished WRITEs hold. -/
def Obligations.StepKeepsWriteLinesAccounted : Prop :=
  ∀ s t : State, step s = .next t → s.WriteLinesAccounted → t.WriteLinesAccounted

/-- The offer table keeps its numbers distinct, its parties in session, its pages mapping the offered frames, and no two
records of one frame to one target. -/
def Obligations.StepKeepsOffersInOrder : Prop :=
  ∀ s t : State, step s = .next t → s.OffersInOrder → t.OffersInOrder

/-- The pool is accounted for: every frame is in the state its lists, its region and its counts say, its holders are the
slots that map it and its pins the unfinished requests translated to it, across all ports. -/
def Obligations.StepKeepsThePoolAccounted : Prop :=
  ∀ s t : State, step s = .next t → s.PoolAccounted → t.PoolAccounted

/-- The state right after reset has all of these properties. -/
def Obligations.ResetStateIsInOrder : Prop :=
  (∀ p, (State.reset.port p).WithinBounds) ∧ State.reset.LimitsInRange ∧ State.reset.QuotasKept ∧
  State.reset.SchedulerInRange ∧ State.reset.PagesInRange ∧ (∀ p, (State.reset.port p).link.ReplayInOrder) ∧
  State.reset.HolderInSession ∧ State.reset.DisablePendingInTeardown ∧ State.reset.PoolAccounted

/-! ### Bytes on the link -/

/-- The bytes of link frames (10.1 to 10.3, R200 to R202). A frame is its eight header bytes, its payload and its check,
every number least significant byte first: so the frames that the part sends, and those of a host, each with the code of
its kind. A good frame that is received spells, by its kind byte, a link-control command or the request of that code with
the header fields and the payload, or a sequenced frame of unknown kind; a frame that fails the check is damaged. What a
well-formed command is on the wire spells that command again, with every field at every value, and its port. (That the
bytes a host's link-control frame does not use are sent as 0 is the table of 10.2; that a SET_LIMIT with a reserved
selector is the row of OFFER_LIFE is the model's choice, log entry 16.) -/
def Obligations.WireBytesSpellTheirCommand : Prop :=
  let frame (kind seq flags mark byte6 byte7 : Byte) (payload : List Byte) : List Byte :=
    let n := payload.length
    let body := [kind, seq, flags, mark, BitVec.ofNat 8 (n % 256), BitVec.ofNat 8 (n / 256), byte6,
      byte7] ++ payload
    body ++ [(checkOf body).extractLsb' 0 8, (checkOf body).extractLsb' 8 8]
  let named (p : Port) (f : RequestFrame) (k : RequestKind) : Byte × Instr :=
    match k with
    | .openSession => (0x10, .openSession p f)
    | .closeSession => (0x11, .closeSession p f)
    | .setOrder => (0x12, .setOrder p f)
    | .read => (0x20, .read p f)
    | .write => (0x21, .write p f)
    | .fence => (0x22, .fence p f)
    | .alloc => (0x30, .alloc p f)
    | .release => (0x31, .release p f)
    | .offer => (0x32, .offer p f)
    | .accept => (0x33, .accept p f)
    | .decline => (0x34, .decline p f)
    | .withdraw => (0x35, .withdraw p f)
    | .queryPort => (0x40, .queryPort p f)
    | .queryPage => (0x41, .queryPage p f)
    | .queryPool => (0x42, .queryPool p f)
    | .queryFrame => (0x43, .queryFrame p f)
    | .claimAdmin => (0x50, .claimAdmin p f)
    | .handAdmin => (0x51, .handAdmin p f)
    | .defineRegion => (0x52, .defineRegion p f)
    | .undefineRegion => (0x53, .undefineRegion p f)
    | .onlineRegion => (0x54, .onlineRegion p f)
    | .retireRegion => (0x55, .retireRegion p f)
    | .setQuota => (0x56, .setQuota p f)
    | .setWeight => (0x57, .setWeight p f)
    | .setLimit => (0x58,
        if field f.payload 0 1 = 2 then .setLimitHoldLimit p f
        else if field f.payload 0 1 = 3 then .setLimitErrorLimit p f
        else if field f.payload 0 1 = 4 then .setLimitReplayTimeout p f
        else .setLimitOfferLife p f)
    | .disablePort => (0x59, .disablePort p f)
    | .enablePort => (0x5A, .enablePort p f)
    | .evictPort => (0x5B, .evictPort p f)
  (∀ bytes offset, field bytes offset 0 = 0 ∧ ∀ size, field bytes offset (size + 1) =
    (bytes.getD offset 0).toNat + 256 * field bytes (offset + 1) size) ∧
  (∀ f : LinkFrame, f.bytes = frame f.kind f.seq f.flags f.mark f.byte6 f.byte7 f.payload) ∧
  (∀ p,
    (∀ seen : Bool, wireOfCommand (.linkHello p seen) =
      some (p, frame 0x01 0 (if seen then 2 else 0) 0 0 0 [])) ∧
    (∀ value (hold : Bool), wireOfCommand (.linkAck p value hold) =
      some (p, frame 0x02 0 (if hold then 4 else 0) 0 value 0 [])) ∧
    (∀ value, wireOfCommand (.linkNak p value) = some (p, frame 0x03 0 0 0 value 0 [])) ∧
    ∀ f : RequestFrame,
      (∀ code, wireOfCommand (.unknownRequestKind p code f) =
        some (p, frame code f.seq f.flags f.mark f.byte6 f.byte7 f.payload)) ∧
      ∀ k, k.code = (named p f k).1 ∧ requestCommand p f k = (named p f k).2 ∧
        (named p f k).2.sequenced = some (p, (named p f k).1, f) ∧
        wireOfCommand (named p f k).2 =
          some (p, frame (named p f k).1 f.seq f.flags f.mark f.byte6 f.byte7 f.payload)) ∧
  (∀ p bytes,
    let byte (offset : Nat) : Byte := bytes.getD offset 0
    let f : RequestFrame :=
      { seq := byte 1, flags := byte 2, mark := byte 3, byte6 := byte 6, byte7 := byte 7,
        payload := (bytes.drop 8).take (bytes.length - 10) }
    (frameCheck bytes = false → commandOfWire p bytes = .damagedFrame p bytes) ∧
    (frameCheck bytes = true →
      (byte 0 = 0x01 → commandOfWire p bytes = .linkHello p ((byte 2).getLsbD 1)) ∧
      (byte 0 = 0x02 → commandOfWire p bytes = .linkAck p (byte 6) ((byte 2).getLsbD 2)) ∧
      (byte 0 = 0x03 → commandOfWire p bytes = .linkNak p (byte 6)) ∧
      (∀ k, byte 0 = (named p f k).1 → commandOfWire p bytes = (named p f k).2) ∧
      (byte 0 ∉ [0x01, 0x02, 0x03] → (∀ k, byte 0 ≠ (named p f k).1) →
        commandOfWire p bytes = .unknownRequestKind p (byte 0) f))) ∧
  ∀ (i : Instr) (p : Port) (bytes : List Byte), i.wf = true → wireOfCommand i = some (p, bytes) →
    commandOfWire p bytes = i

end
end

