-- ==== Sys2Proof/Laws/State.lean ====
section
/-! SUPPORT. What each update of the state leaves in each field: one lemma per field and update. -/

namespace Sys2Proof.Machine

variable (s : State)

/-! ### Fields of the state -/

@[simp] theorem pool_modPort (p : Port) (f : PortState → PortState) : (s.modPort p f).pool = s.pool := rfl
@[simp] theorem share_modPort (p : Port) (f : PortState → PortState) : (s.modPort p f).share = s.share := rfl
@[simp] theorem scheduler_modPort (p : Port) (f : PortState → PortState) : (s.modPort p f).scheduler = s.scheduler := rfl
@[simp] theorem inFlight_modPort (p : Port) (f : PortState → PortState) : (s.modPort p f).inFlight = s.inFlight := rfl
@[simp] theorem dram_modPort (p : Port) (f : PortState → PortState) : (s.modPort p f).dram = s.dram := rfl
@[simp] theorem role_modPort (p : Port) (f : PortState → PortState) : (s.modPort p f).role = s.role := rfl
@[simp] theorem holdLimit_modPort (p : Port) (f : PortState → PortState) : (s.modPort p f).holdLimit = s.holdLimit := rfl
@[simp] theorem replayTimeout_modPort (p : Port) (f : PortState → PortState) : (s.modPort p f).replayTimeout = s.replayTimeout := rfl
@[simp] theorem resetLow_modPort (p : Port) (f : PortState → PortState) : (s.modPort p f).resetLow = s.resetLow := rfl
@[simp] theorem now_modPort (p : Port) (f : PortState → PortState) : (s.modPort p f).now = s.now := rfl
@[simp] theorem freeIndex_modPort (p : Port) (f : PortState → PortState) : (s.modPort p f).freeIndex = s.freeIndex := rfl
@[simp] theorem pending_modPort (p : Port) (f : PortState → PortState) : (s.modPort p f).pending = s.pending := rfl
@[simp] theorem pool_modLink (p : Port) (f : LinkUnit → LinkUnit) : (s.modLink p f).pool = s.pool := rfl
@[simp] theorem share_modLink (p : Port) (f : LinkUnit → LinkUnit) : (s.modLink p f).share = s.share := rfl
@[simp] theorem scheduler_modLink (p : Port) (f : LinkUnit → LinkUnit) : (s.modLink p f).scheduler = s.scheduler := rfl
@[simp] theorem inFlight_modLink (p : Port) (f : LinkUnit → LinkUnit) : (s.modLink p f).inFlight = s.inFlight := rfl
@[simp] theorem dram_modLink (p : Port) (f : LinkUnit → LinkUnit) : (s.modLink p f).dram = s.dram := rfl
@[simp] theorem role_modLink (p : Port) (f : LinkUnit → LinkUnit) : (s.modLink p f).role = s.role := rfl
@[simp] theorem holdLimit_modLink (p : Port) (f : LinkUnit → LinkUnit) : (s.modLink p f).holdLimit = s.holdLimit := rfl
@[simp] theorem replayTimeout_modLink (p : Port) (f : LinkUnit → LinkUnit) : (s.modLink p f).replayTimeout = s.replayTimeout := rfl
@[simp] theorem resetLow_modLink (p : Port) (f : LinkUnit → LinkUnit) : (s.modLink p f).resetLow = s.resetLow := rfl
@[simp] theorem now_modLink (p : Port) (f : LinkUnit → LinkUnit) : (s.modLink p f).now = s.now := rfl
@[simp] theorem freeIndex_modLink (p : Port) (f : LinkUnit → LinkUnit) : (s.modLink p f).freeIndex = s.freeIndex := rfl
@[simp] theorem pending_modLink (p : Port) (f : LinkUnit → LinkUnit) : (s.modLink p f).pending = s.pending := rfl
@[simp] theorem pool_modSession (p : Port) (f : PortController → PortController) : (s.modSession p f).pool = s.pool := rfl
@[simp] theorem share_modSession (p : Port) (f : PortController → PortController) : (s.modSession p f).share = s.share := rfl
@[simp] theorem scheduler_modSession (p : Port) (f : PortController → PortController) : (s.modSession p f).scheduler = s.scheduler := rfl
@[simp] theorem inFlight_modSession (p : Port) (f : PortController → PortController) : (s.modSession p f).inFlight = s.inFlight := rfl
@[simp] theorem dram_modSession (p : Port) (f : PortController → PortController) : (s.modSession p f).dram = s.dram := rfl
@[simp] theorem role_modSession (p : Port) (f : PortController → PortController) : (s.modSession p f).role = s.role := rfl
@[simp] theorem holdLimit_modSession (p : Port) (f : PortController → PortController) : (s.modSession p f).holdLimit = s.holdLimit := rfl
@[simp] theorem replayTimeout_modSession (p : Port) (f : PortController → PortController) : (s.modSession p f).replayTimeout = s.replayTimeout := rfl
@[simp] theorem resetLow_modSession (p : Port) (f : PortController → PortController) : (s.modSession p f).resetLow = s.resetLow := rfl
@[simp] theorem now_modSession (p : Port) (f : PortController → PortController) : (s.modSession p f).now = s.now := rfl
@[simp] theorem freeIndex_modSession (p : Port) (f : PortController → PortController) : (s.modSession p f).freeIndex = s.freeIndex := rfl
@[simp] theorem pending_modSession (p : Port) (f : PortController → PortController) : (s.modSession p f).pending = s.pending := rfl
@[simp] theorem pool_modRequests (p : Port) (f : RequestUnit → RequestUnit) : (s.modRequests p f).pool = s.pool := rfl
@[simp] theorem share_modRequests (p : Port) (f : RequestUnit → RequestUnit) : (s.modRequests p f).share = s.share := rfl
@[simp] theorem scheduler_modRequests (p : Port) (f : RequestUnit → RequestUnit) : (s.modRequests p f).scheduler = s.scheduler := rfl
@[simp] theorem inFlight_modRequests (p : Port) (f : RequestUnit → RequestUnit) : (s.modRequests p f).inFlight = s.inFlight := rfl
@[simp] theorem dram_modRequests (p : Port) (f : RequestUnit → RequestUnit) : (s.modRequests p f).dram = s.dram := rfl
@[simp] theorem role_modRequests (p : Port) (f : RequestUnit → RequestUnit) : (s.modRequests p f).role = s.role := rfl
@[simp] theorem holdLimit_modRequests (p : Port) (f : RequestUnit → RequestUnit) : (s.modRequests p f).holdLimit = s.holdLimit := rfl
@[simp] theorem replayTimeout_modRequests (p : Port) (f : RequestUnit → RequestUnit) : (s.modRequests p f).replayTimeout = s.replayTimeout := rfl
@[simp] theorem resetLow_modRequests (p : Port) (f : RequestUnit → RequestUnit) : (s.modRequests p f).resetLow = s.resetLow := rfl
@[simp] theorem now_modRequests (p : Port) (f : RequestUnit → RequestUnit) : (s.modRequests p f).now = s.now := rfl
@[simp] theorem freeIndex_modRequests (p : Port) (f : RequestUnit → RequestUnit) : (s.modRequests p f).freeIndex = s.freeIndex := rfl
@[simp] theorem pending_modRequests (p : Port) (f : RequestUnit → RequestUnit) : (s.modRequests p f).pending = s.pending := rfl
@[simp] theorem pool_modTransmit (p : Port) (f : TransmitUnit → TransmitUnit) : (s.modTransmit p f).pool = s.pool := rfl
@[simp] theorem share_modTransmit (p : Port) (f : TransmitUnit → TransmitUnit) : (s.modTransmit p f).share = s.share := rfl
@[simp] theorem scheduler_modTransmit (p : Port) (f : TransmitUnit → TransmitUnit) : (s.modTransmit p f).scheduler = s.scheduler := rfl
@[simp] theorem inFlight_modTransmit (p : Port) (f : TransmitUnit → TransmitUnit) : (s.modTransmit p f).inFlight = s.inFlight := rfl
@[simp] theorem dram_modTransmit (p : Port) (f : TransmitUnit → TransmitUnit) : (s.modTransmit p f).dram = s.dram := rfl
@[simp] theorem role_modTransmit (p : Port) (f : TransmitUnit → TransmitUnit) : (s.modTransmit p f).role = s.role := rfl
@[simp] theorem holdLimit_modTransmit (p : Port) (f : TransmitUnit → TransmitUnit) : (s.modTransmit p f).holdLimit = s.holdLimit := rfl
@[simp] theorem replayTimeout_modTransmit (p : Port) (f : TransmitUnit → TransmitUnit) : (s.modTransmit p f).replayTimeout = s.replayTimeout := rfl
@[simp] theorem resetLow_modTransmit (p : Port) (f : TransmitUnit → TransmitUnit) : (s.modTransmit p f).resetLow = s.resetLow := rfl
@[simp] theorem now_modTransmit (p : Port) (f : TransmitUnit → TransmitUnit) : (s.modTransmit p f).now = s.now := rfl
@[simp] theorem freeIndex_modTransmit (p : Port) (f : TransmitUnit → TransmitUnit) : (s.modTransmit p f).freeIndex = s.freeIndex := rfl
@[simp] theorem pending_modTransmit (p : Port) (f : TransmitUnit → TransmitUnit) : (s.modTransmit p f).pending = s.pending := rfl
@[simp] theorem pool_modAperture (p : Port) (f : Aperture → Aperture) : (s.modAperture p f).pool = s.pool := rfl
@[simp] theorem share_modAperture (p : Port) (f : Aperture → Aperture) : (s.modAperture p f).share = s.share := rfl
@[simp] theorem scheduler_modAperture (p : Port) (f : Aperture → Aperture) : (s.modAperture p f).scheduler = s.scheduler := rfl
@[simp] theorem inFlight_modAperture (p : Port) (f : Aperture → Aperture) : (s.modAperture p f).inFlight = s.inFlight := rfl
@[simp] theorem dram_modAperture (p : Port) (f : Aperture → Aperture) : (s.modAperture p f).dram = s.dram := rfl
@[simp] theorem role_modAperture (p : Port) (f : Aperture → Aperture) : (s.modAperture p f).role = s.role := rfl
@[simp] theorem holdLimit_modAperture (p : Port) (f : Aperture → Aperture) : (s.modAperture p f).holdLimit = s.holdLimit := rfl
@[simp] theorem replayTimeout_modAperture (p : Port) (f : Aperture → Aperture) : (s.modAperture p f).replayTimeout = s.replayTimeout := rfl
@[simp] theorem resetLow_modAperture (p : Port) (f : Aperture → Aperture) : (s.modAperture p f).resetLow = s.resetLow := rfl
@[simp] theorem now_modAperture (p : Port) (f : Aperture → Aperture) : (s.modAperture p f).now = s.now := rfl
@[simp] theorem freeIndex_modAperture (p : Port) (f : Aperture → Aperture) : (s.modAperture p f).freeIndex = s.freeIndex := rfl
@[simp] theorem pending_modAperture (p : Port) (f : Aperture → Aperture) : (s.modAperture p f).pending = s.pending := rfl
@[simp] theorem pool_send (p : Port) (f : LinkFrame) : (s.send p f).pool = s.pool := rfl
@[simp] theorem share_send (p : Port) (f : LinkFrame) : (s.send p f).share = s.share := rfl
@[simp] theorem scheduler_send (p : Port) (f : LinkFrame) : (s.send p f).scheduler = s.scheduler := rfl
@[simp] theorem inFlight_send (p : Port) (f : LinkFrame) : (s.send p f).inFlight = s.inFlight := rfl
@[simp] theorem dram_send (p : Port) (f : LinkFrame) : (s.send p f).dram = s.dram := rfl
@[simp] theorem role_send (p : Port) (f : LinkFrame) : (s.send p f).role = s.role := rfl
@[simp] theorem holdLimit_send (p : Port) (f : LinkFrame) : (s.send p f).holdLimit = s.holdLimit := rfl
@[simp] theorem replayTimeout_send (p : Port) (f : LinkFrame) : (s.send p f).replayTimeout = s.replayTimeout := rfl
@[simp] theorem resetLow_send (p : Port) (f : LinkFrame) : (s.send p f).resetLow = s.resetLow := rfl
@[simp] theorem now_send (p : Port) (f : LinkFrame) : (s.send p f).now = s.now := rfl
@[simp] theorem freeIndex_send (p : Port) (f : LinkFrame) : (s.send p f).freeIndex = s.freeIndex := rfl
@[simp] theorem pending_send (p : Port) (f : LinkFrame) : (s.send p f).pending = s.pending := rfl
@[simp] theorem pool_enterNotice (p : Port) (n : Notice) : (s.enterNotice p n).pool = s.pool := rfl
@[simp] theorem share_enterNotice (p : Port) (n : Notice) : (s.enterNotice p n).share = s.share := rfl
@[simp] theorem scheduler_enterNotice (p : Port) (n : Notice) : (s.enterNotice p n).scheduler = s.scheduler := rfl
@[simp] theorem inFlight_enterNotice (p : Port) (n : Notice) : (s.enterNotice p n).inFlight = s.inFlight := rfl
@[simp] theorem dram_enterNotice (p : Port) (n : Notice) : (s.enterNotice p n).dram = s.dram := rfl
@[simp] theorem role_enterNotice (p : Port) (n : Notice) : (s.enterNotice p n).role = s.role := rfl
@[simp] theorem holdLimit_enterNotice (p : Port) (n : Notice) : (s.enterNotice p n).holdLimit = s.holdLimit := rfl
@[simp] theorem replayTimeout_enterNotice (p : Port) (n : Notice) : (s.enterNotice p n).replayTimeout = s.replayTimeout := rfl
@[simp] theorem resetLow_enterNotice (p : Port) (n : Notice) : (s.enterNotice p n).resetLow = s.resetLow := rfl
@[simp] theorem now_enterNotice (p : Port) (n : Notice) : (s.enterNotice p n).now = s.now := rfl
@[simp] theorem freeIndex_enterNotice (p : Port) (n : Notice) : (s.enterNotice p n).freeIndex = s.freeIndex := rfl
@[simp] theorem pending_enterNotice (p : Port) (n : Notice) : (s.enterNotice p n).pending = s.pending := rfl
@[simp] theorem pool_setSlot (p : Port) (g : Nat) (m : Option Mapping) : (s.setSlot p g m).pool = s.pool := rfl
@[simp] theorem share_setSlot (p : Port) (g : Nat) (m : Option Mapping) : (s.setSlot p g m).share = s.share := rfl
@[simp] theorem scheduler_setSlot (p : Port) (g : Nat) (m : Option Mapping) : (s.setSlot p g m).scheduler = s.scheduler := rfl
@[simp] theorem inFlight_setSlot (p : Port) (g : Nat) (m : Option Mapping) : (s.setSlot p g m).inFlight = s.inFlight := rfl
@[simp] theorem dram_setSlot (p : Port) (g : Nat) (m : Option Mapping) : (s.setSlot p g m).dram = s.dram := rfl
@[simp] theorem role_setSlot (p : Port) (g : Nat) (m : Option Mapping) : (s.setSlot p g m).role = s.role := rfl
@[simp] theorem holdLimit_setSlot (p : Port) (g : Nat) (m : Option Mapping) : (s.setSlot p g m).holdLimit = s.holdLimit := rfl
@[simp] theorem replayTimeout_setSlot (p : Port) (g : Nat) (m : Option Mapping) : (s.setSlot p g m).replayTimeout = s.replayTimeout := rfl
@[simp] theorem resetLow_setSlot (p : Port) (g : Nat) (m : Option Mapping) : (s.setSlot p g m).resetLow = s.resetLow := rfl
@[simp] theorem now_setSlot (p : Port) (g : Nat) (m : Option Mapping) : (s.setSlot p g m).now = s.now := rfl
@[simp] theorem freeIndex_setSlot (p : Port) (g : Nat) (m : Option Mapping) : (s.setSlot p g m).freeIndex = s.freeIndex := rfl
@[simp] theorem pending_setSlot (p : Port) (g : Nat) (m : Option Mapping) : (s.setSlot p g m).pending = s.pending := rfl
@[simp] theorem ports_modPool (f : PoolManager → PoolManager) : (s.modPool f).ports = s.ports := rfl
@[simp] theorem share_modPool (f : PoolManager → PoolManager) : (s.modPool f).share = s.share := rfl
@[simp] theorem scheduler_modPool (f : PoolManager → PoolManager) : (s.modPool f).scheduler = s.scheduler := rfl
@[simp] theorem inFlight_modPool (f : PoolManager → PoolManager) : (s.modPool f).inFlight = s.inFlight := rfl
@[simp] theorem dram_modPool (f : PoolManager → PoolManager) : (s.modPool f).dram = s.dram := rfl
@[simp] theorem role_modPool (f : PoolManager → PoolManager) : (s.modPool f).role = s.role := rfl
@[simp] theorem holdLimit_modPool (f : PoolManager → PoolManager) : (s.modPool f).holdLimit = s.holdLimit := rfl
@[simp] theorem replayTimeout_modPool (f : PoolManager → PoolManager) : (s.modPool f).replayTimeout = s.replayTimeout := rfl
@[simp] theorem resetLow_modPool (f : PoolManager → PoolManager) : (s.modPool f).resetLow = s.resetLow := rfl
@[simp] theorem now_modPool (f : PoolManager → PoolManager) : (s.modPool f).now = s.now := rfl
@[simp] theorem freeIndex_modPool (f : PoolManager → PoolManager) : (s.modPool f).freeIndex = s.freeIndex := rfl
@[simp] theorem pending_modPool (f : PoolManager → PoolManager) : (s.modPool f).pending = s.pending := rfl
@[simp] theorem ports_setFrame (f : Nat) (r : FrameRecord) : (s.setFrame f r).ports = s.ports := rfl
@[simp] theorem share_setFrame (f : Nat) (r : FrameRecord) : (s.setFrame f r).share = s.share := rfl
@[simp] theorem scheduler_setFrame (f : Nat) (r : FrameRecord) : (s.setFrame f r).scheduler = s.scheduler := rfl
@[simp] theorem inFlight_setFrame (f : Nat) (r : FrameRecord) : (s.setFrame f r).inFlight = s.inFlight := rfl
@[simp] theorem dram_setFrame (f : Nat) (r : FrameRecord) : (s.setFrame f r).dram = s.dram := rfl
@[simp] theorem role_setFrame (f : Nat) (r : FrameRecord) : (s.setFrame f r).role = s.role := rfl
@[simp] theorem holdLimit_setFrame (f : Nat) (r : FrameRecord) : (s.setFrame f r).holdLimit = s.holdLimit := rfl
@[simp] theorem replayTimeout_setFrame (f : Nat) (r : FrameRecord) : (s.setFrame f r).replayTimeout = s.replayTimeout := rfl
@[simp] theorem resetLow_setFrame (f : Nat) (r : FrameRecord) : (s.setFrame f r).resetLow = s.resetLow := rfl
@[simp] theorem now_setFrame (f : Nat) (r : FrameRecord) : (s.setFrame f r).now = s.now := rfl
@[simp] theorem freeIndex_setFrame (f : Nat) (r : FrameRecord) : (s.setFrame f r).freeIndex = s.freeIndex := rfl
@[simp] theorem pending_setFrame (f : Nat) (r : FrameRecord) : (s.setFrame f r).pending = s.pending := rfl
@[simp] theorem ports_modRegion (k : Slot) (f : Region → Region) : (s.modRegion k f).ports = s.ports := rfl
@[simp] theorem share_modRegion (k : Slot) (f : Region → Region) : (s.modRegion k f).share = s.share := rfl
@[simp] theorem scheduler_modRegion (k : Slot) (f : Region → Region) : (s.modRegion k f).scheduler = s.scheduler := rfl
@[simp] theorem inFlight_modRegion (k : Slot) (f : Region → Region) : (s.modRegion k f).inFlight = s.inFlight := rfl
@[simp] theorem dram_modRegion (k : Slot) (f : Region → Region) : (s.modRegion k f).dram = s.dram := rfl
@[simp] theorem role_modRegion (k : Slot) (f : Region → Region) : (s.modRegion k f).role = s.role := rfl
@[simp] theorem holdLimit_modRegion (k : Slot) (f : Region → Region) : (s.modRegion k f).holdLimit = s.holdLimit := rfl
@[simp] theorem replayTimeout_modRegion (k : Slot) (f : Region → Region) : (s.modRegion k f).replayTimeout = s.replayTimeout := rfl
@[simp] theorem resetLow_modRegion (k : Slot) (f : Region → Region) : (s.modRegion k f).resetLow = s.resetLow := rfl
@[simp] theorem now_modRegion (k : Slot) (f : Region → Region) : (s.modRegion k f).now = s.now := rfl
@[simp] theorem freeIndex_modRegion (k : Slot) (f : Region → Region) : (s.modRegion k f).freeIndex = s.freeIndex := rfl
@[simp] theorem pending_modRegion (k : Slot) (f : Region → Region) : (s.modRegion k f).pending = s.pending := rfl
@[simp] theorem ports_settleScrub : s.settleScrub.ports = s.ports := rfl
@[simp] theorem share_settleScrub : s.settleScrub.share = s.share := rfl
@[simp] theorem scheduler_settleScrub : s.settleScrub.scheduler = s.scheduler := rfl
@[simp] theorem inFlight_settleScrub : s.settleScrub.inFlight = s.inFlight := rfl
@[simp] theorem dram_settleScrub : s.settleScrub.dram = s.dram := rfl
@[simp] theorem role_settleScrub : s.settleScrub.role = s.role := rfl
@[simp] theorem holdLimit_settleScrub : s.settleScrub.holdLimit = s.holdLimit := rfl
@[simp] theorem replayTimeout_settleScrub : s.settleScrub.replayTimeout = s.replayTimeout := rfl
@[simp] theorem resetLow_settleScrub : s.settleScrub.resetLow = s.resetLow := rfl
@[simp] theorem now_settleScrub : s.settleScrub.now = s.now := rfl
@[simp] theorem freeIndex_settleScrub : s.settleScrub.freeIndex = s.freeIndex := rfl
@[simp] theorem pending_settleScrub : s.settleScrub.pending = s.pending := rfl
@[simp] theorem ports_hold (f : Nat) : (s.hold f).ports = s.ports := rfl
@[simp] theorem share_hold (f : Nat) : (s.hold f).share = s.share := rfl
@[simp] theorem scheduler_hold (f : Nat) : (s.hold f).scheduler = s.scheduler := rfl
@[simp] theorem inFlight_hold (f : Nat) : (s.hold f).inFlight = s.inFlight := rfl
@[simp] theorem dram_hold (f : Nat) : (s.hold f).dram = s.dram := rfl
@[simp] theorem role_hold (f : Nat) : (s.hold f).role = s.role := rfl
@[simp] theorem holdLimit_hold (f : Nat) : (s.hold f).holdLimit = s.holdLimit := rfl
@[simp] theorem replayTimeout_hold (f : Nat) : (s.hold f).replayTimeout = s.replayTimeout := rfl
@[simp] theorem resetLow_hold (f : Nat) : (s.hold f).resetLow = s.resetLow := rfl
@[simp] theorem now_hold (f : Nat) : (s.hold f).now = s.now := rfl
@[simp] theorem freeIndex_hold (f : Nat) : (s.hold f).freeIndex = s.freeIndex := rfl
@[simp] theorem pending_hold (f : Nat) : (s.hold f).pending = s.pending := rfl
@[simp] theorem ports_pin (f : Nat) : (s.pin f).ports = s.ports := rfl
@[simp] theorem share_pin (f : Nat) : (s.pin f).share = s.share := rfl
@[simp] theorem scheduler_pin (f : Nat) : (s.pin f).scheduler = s.scheduler := rfl
@[simp] theorem inFlight_pin (f : Nat) : (s.pin f).inFlight = s.inFlight := rfl
@[simp] theorem dram_pin (f : Nat) : (s.pin f).dram = s.dram := rfl
@[simp] theorem role_pin (f : Nat) : (s.pin f).role = s.role := rfl
@[simp] theorem holdLimit_pin (f : Nat) : (s.pin f).holdLimit = s.holdLimit := rfl
@[simp] theorem replayTimeout_pin (f : Nat) : (s.pin f).replayTimeout = s.replayTimeout := rfl
@[simp] theorem resetLow_pin (f : Nat) : (s.pin f).resetLow = s.resetLow := rfl
@[simp] theorem now_pin (f : Nat) : (s.pin f).now = s.now := rfl
@[simp] theorem freeIndex_pin (f : Nat) : (s.pin f).freeIndex = s.freeIndex := rfl
@[simp] theorem pending_pin (f : Nat) : (s.pin f).pending = s.pending := rfl
@[simp] theorem ports_countRetired (k : Slot) : (s.countRetired k).ports = s.ports := rfl
@[simp] theorem share_countRetired (k : Slot) : (s.countRetired k).share = s.share := rfl
@[simp] theorem scheduler_countRetired (k : Slot) : (s.countRetired k).scheduler = s.scheduler := rfl
@[simp] theorem inFlight_countRetired (k : Slot) : (s.countRetired k).inFlight = s.inFlight := rfl
@[simp] theorem dram_countRetired (k : Slot) : (s.countRetired k).dram = s.dram := rfl
@[simp] theorem role_countRetired (k : Slot) : (s.countRetired k).role = s.role := rfl
@[simp] theorem holdLimit_countRetired (k : Slot) : (s.countRetired k).holdLimit = s.holdLimit := rfl
@[simp] theorem replayTimeout_countRetired (k : Slot) : (s.countRetired k).replayTimeout = s.replayTimeout := rfl
@[simp] theorem resetLow_countRetired (k : Slot) : (s.countRetired k).resetLow = s.resetLow := rfl
@[simp] theorem now_countRetired (k : Slot) : (s.countRetired k).now = s.now := rfl
@[simp] theorem freeIndex_countRetired (k : Slot) : (s.countRetired k).freeIndex = s.freeIndex := rfl
@[simp] theorem pending_countRetired (k : Slot) : (s.countRetired k).pending = s.pending := rfl
@[simp] theorem ports_queueScrub (f : Nat) : (s.queueScrub f).ports = s.ports := rfl
@[simp] theorem share_queueScrub (f : Nat) : (s.queueScrub f).share = s.share := rfl
@[simp] theorem scheduler_queueScrub (f : Nat) : (s.queueScrub f).scheduler = s.scheduler := rfl
@[simp] theorem inFlight_queueScrub (f : Nat) : (s.queueScrub f).inFlight = s.inFlight := rfl
@[simp] theorem dram_queueScrub (f : Nat) : (s.queueScrub f).dram = s.dram := rfl
@[simp] theorem role_queueScrub (f : Nat) : (s.queueScrub f).role = s.role := rfl
@[simp] theorem holdLimit_queueScrub (f : Nat) : (s.queueScrub f).holdLimit = s.holdLimit := rfl
@[simp] theorem replayTimeout_queueScrub (f : Nat) : (s.queueScrub f).replayTimeout = s.replayTimeout := rfl
@[simp] theorem resetLow_queueScrub (f : Nat) : (s.queueScrub f).resetLow = s.resetLow := rfl
@[simp] theorem now_queueScrub (f : Nat) : (s.queueScrub f).now = s.now := rfl
@[simp] theorem freeIndex_queueScrub (f : Nat) : (s.queueScrub f).freeIndex = s.freeIndex := rfl
@[simp] theorem pending_queueScrub (f : Nat) : (s.queueScrub f).pending = s.pending := rfl
@[simp] theorem ports_modShare (f : ShareUnit → ShareUnit) : (s.modShare f).ports = s.ports := rfl
@[simp] theorem pool_modShare (f : ShareUnit → ShareUnit) : (s.modShare f).pool = s.pool := rfl
@[simp] theorem scheduler_modShare (f : ShareUnit → ShareUnit) : (s.modShare f).scheduler = s.scheduler := rfl
@[simp] theorem inFlight_modShare (f : ShareUnit → ShareUnit) : (s.modShare f).inFlight = s.inFlight := rfl
@[simp] theorem dram_modShare (f : ShareUnit → ShareUnit) : (s.modShare f).dram = s.dram := rfl
@[simp] theorem role_modShare (f : ShareUnit → ShareUnit) : (s.modShare f).role = s.role := rfl
@[simp] theorem holdLimit_modShare (f : ShareUnit → ShareUnit) : (s.modShare f).holdLimit = s.holdLimit := rfl
@[simp] theorem replayTimeout_modShare (f : ShareUnit → ShareUnit) : (s.modShare f).replayTimeout = s.replayTimeout := rfl
@[simp] theorem resetLow_modShare (f : ShareUnit → ShareUnit) : (s.modShare f).resetLow = s.resetLow := rfl
@[simp] theorem now_modShare (f : ShareUnit → ShareUnit) : (s.modShare f).now = s.now := rfl
@[simp] theorem freeIndex_modShare (f : ShareUnit → ShareUnit) : (s.modShare f).freeIndex = s.freeIndex := rfl
@[simp] theorem pending_modShare (f : ShareUnit → ShareUnit) : (s.modShare f).pending = s.pending := rfl
@[simp] theorem ports_removeOffer (n : Byte) : (s.removeOffer n).ports = s.ports := rfl
@[simp] theorem pool_removeOffer (n : Byte) : (s.removeOffer n).pool = s.pool := rfl
@[simp] theorem scheduler_removeOffer (n : Byte) : (s.removeOffer n).scheduler = s.scheduler := rfl
@[simp] theorem inFlight_removeOffer (n : Byte) : (s.removeOffer n).inFlight = s.inFlight := rfl
@[simp] theorem dram_removeOffer (n : Byte) : (s.removeOffer n).dram = s.dram := rfl
@[simp] theorem role_removeOffer (n : Byte) : (s.removeOffer n).role = s.role := rfl
@[simp] theorem holdLimit_removeOffer (n : Byte) : (s.removeOffer n).holdLimit = s.holdLimit := rfl
@[simp] theorem replayTimeout_removeOffer (n : Byte) : (s.removeOffer n).replayTimeout = s.replayTimeout := rfl
@[simp] theorem resetLow_removeOffer (n : Byte) : (s.removeOffer n).resetLow = s.resetLow := rfl
@[simp] theorem now_removeOffer (n : Byte) : (s.removeOffer n).now = s.now := rfl
@[simp] theorem freeIndex_removeOffer (n : Byte) : (s.removeOffer n).freeIndex = s.freeIndex := rfl
@[simp] theorem pending_removeOffer (n : Byte) : (s.removeOffer n).pending = s.pending := rfl
@[simp] theorem ports_reachTime (d : Nat) : (s.reachTime d).ports = s.ports := rfl
@[simp] theorem pool_reachTime (d : Nat) : (s.reachTime d).pool = s.pool := rfl
@[simp] theorem share_reachTime (d : Nat) : (s.reachTime d).share = s.share := rfl
@[simp] theorem scheduler_reachTime (d : Nat) : (s.reachTime d).scheduler = s.scheduler := rfl
@[simp] theorem inFlight_reachTime (d : Nat) : (s.reachTime d).inFlight = s.inFlight := rfl
@[simp] theorem dram_reachTime (d : Nat) : (s.reachTime d).dram = s.dram := rfl
@[simp] theorem role_reachTime (d : Nat) : (s.reachTime d).role = s.role := rfl
@[simp] theorem holdLimit_reachTime (d : Nat) : (s.reachTime d).holdLimit = s.holdLimit := rfl
@[simp] theorem replayTimeout_reachTime (d : Nat) : (s.reachTime d).replayTimeout = s.replayTimeout := rfl
@[simp] theorem resetLow_reachTime (d : Nat) : (s.reachTime d).resetLow = s.resetLow := rfl
@[simp] theorem freeIndex_reachTime (d : Nat) : (s.reachTime d).freeIndex = s.freeIndex := rfl
@[simp] theorem pending_reachTime (d : Nat) : (s.reachTime d).pending = s.pending := rfl

/-! ### The port that an update names, and the others -/

/-- The named port after its update. -/
@[simp] theorem port_modPort_same (p : Port) (f : PortState → PortState) :
    (s.modPort p f).port p = f (s.port p) := by
  simp [State.port, State.modPort]

/-- Another port after the update. -/
@[simp] theorem port_modPort_ne {p q : Port} (h : q ≠ p) (f : PortState → PortState) :
    (s.modPort p f).port q = s.port q := by
  have h' : p.val ≠ q.val := fun e => h (Fin.ext e.symm)
  simp [State.port, State.modPort, Vector.getElem_set_ne, h']

/-- Any port after the update. -/
theorem port_modPort (p q : Port) (f : PortState → PortState) :
    (s.modPort p f).port q = if q = p then f (s.port q) else s.port q := by
  by_cases h : q = p
  · subst h; simp
  · simp [h]

/-- States are told apart by their ports and their other fields. -/
theorem ports_ext {a b : Vector PortState 4} (h : ∀ p : Port, a[p] = b[p]) : a = b := by
  apply Vector.ext
  intro i hi
  exact h ⟨i, hi⟩

@[simp] theorem link_modLink_same (p : Port) (f : LinkUnit → LinkUnit) :
    ((s.modLink p f).port p).link = f (s.port p).link := by simp [State.modLink]
@[simp] theorem session_modLink (p q : Port) (f : LinkUnit → LinkUnit) :
    ((s.modLink p f).port q).session = (s.port q).session := by
  by_cases h : q = p
  · subst h; simp [State.modLink]
  · simp [State.modLink, h]
@[simp] theorem requests_modLink (p q : Port) (f : LinkUnit → LinkUnit) :
    ((s.modLink p f).port q).requests = (s.port q).requests := by
  by_cases h : q = p
  · subst h; simp [State.modLink]
  · simp [State.modLink, h]
@[simp] theorem transmit_modLink (p q : Port) (f : LinkUnit → LinkUnit) :
    ((s.modLink p f).port q).transmit = (s.port q).transmit := by
  by_cases h : q = p
  · subst h; simp [State.modLink]
  · simp [State.modLink, h]
@[simp] theorem aperture_modLink (p q : Port) (f : LinkUnit → LinkUnit) :
    ((s.modLink p f).port q).aperture = (s.port q).aperture := by
  by_cases h : q = p
  · subst h; simp [State.modLink]
  · simp [State.modLink, h]
@[simp] theorem sent_modLink (p q : Port) (f : LinkUnit → LinkUnit) :
    ((s.modLink p f).port q).sent = (s.port q).sent := by
  by_cases h : q = p
  · subst h; simp [State.modLink]
  · simp [State.modLink, h]
@[simp] theorem port_modLink_ne {p q : Port} (h : q ≠ p) (f : LinkUnit → LinkUnit) :
    (s.modLink p f).port q = s.port q := by simp [State.modLink, h]
@[simp] theorem link_modSession (p q : Port) (f : PortController → PortController) :
    ((s.modSession p f).port q).link = (s.port q).link := by
  by_cases h : q = p
  · subst h; simp [State.modSession]
  · simp [State.modSession, h]
@[simp] theorem session_modSession_same (p : Port) (f : PortController → PortController) :
    ((s.modSession p f).port p).session = f (s.port p).session := by simp [State.modSession]
@[simp] theorem requests_modSession (p q : Port) (f : PortController → PortController) :
    ((s.modSession p f).port q).requests = (s.port q).requests := by
  by_cases h : q = p
  · subst h; simp [State.modSession]
  · simp [State.modSession, h]
@[simp] theorem transmit_modSession (p q : Port) (f : PortController → PortController) :
    ((s.modSession p f).port q).transmit = (s.port q).transmit := by
  by_cases h : q = p
  · subst h; simp [State.modSession]
  · simp [State.modSession, h]
@[simp] theorem aperture_modSession (p q : Port) (f : PortController → PortController) :
    ((s.modSession p f).port q).aperture = (s.port q).aperture := by
  by_cases h : q = p
  · subst h; simp [State.modSession]
  · simp [State.modSession, h]
@[simp] theorem sent_modSession (p q : Port) (f : PortController → PortController) :
    ((s.modSession p f).port q).sent = (s.port q).sent := by
  by_cases h : q = p
  · subst h; simp [State.modSession]
  · simp [State.modSession, h]
@[simp] theorem port_modSession_ne {p q : Port} (h : q ≠ p) (f : PortController → PortController) :
    (s.modSession p f).port q = s.port q := by simp [State.modSession, h]
@[simp] theorem link_modRequests (p q : Port) (f : RequestUnit → RequestUnit) :
    ((s.modRequests p f).port q).link = (s.port q).link := by
  by_cases h : q = p
  · subst h; simp [State.modRequests]
  · simp [State.modRequests, h]
@[simp] theorem session_modRequests (p q : Port) (f : RequestUnit → RequestUnit) :
    ((s.modRequests p f).port q).session = (s.port q).session := by
  by_cases h : q = p
  · subst h; simp [State.modRequests]
  · simp [State.modRequests, h]
@[simp] theorem requests_modRequests_same (p : Port) (f : RequestUnit → RequestUnit) :
    ((s.modRequests p f).port p).requests = f (s.port p).requests := by simp [State.modRequests]
@[simp] theorem transmit_modRequests (p q : Port) (f : RequestUnit → RequestUnit) :
    ((s.modRequests p f).port q).transmit = (s.port q).transmit := by
  by_cases h : q = p
  · subst h; simp [State.modRequests]
  · simp [State.modRequests, h]
@[simp] theorem aperture_modRequests (p q : Port) (f : RequestUnit → RequestUnit) :
    ((s.modRequests p f).port q).aperture = (s.port q).aperture := by
  by_cases h : q = p
  · subst h; simp [State.modRequests]
  · simp [State.modRequests, h]
@[simp] theorem sent_modRequests (p q : Port) (f : RequestUnit → RequestUnit) :
    ((s.modRequests p f).port q).sent = (s.port q).sent := by
  by_cases h : q = p
  · subst h; simp [State.modRequests]
  · simp [State.modRequests, h]
@[simp] theorem port_modRequests_ne {p q : Port} (h : q ≠ p) (f : RequestUnit → RequestUnit) :
    (s.modRequests p f).port q = s.port q := by simp [State.modRequests, h]
@[simp] theorem link_modTransmit (p q : Port) (f : TransmitUnit → TransmitUnit) :
    ((s.modTransmit p f).port q).link = (s.port q).link := by
  by_cases h : q = p
  · subst h; simp [State.modTransmit]
  · simp [State.modTransmit, h]
@[simp] theorem session_modTransmit (p q : Port) (f : TransmitUnit → TransmitUnit) :
    ((s.modTransmit p f).port q).session = (s.port q).session := by
  by_cases h : q = p
  · subst h; simp [State.modTransmit]
  · simp [State.modTransmit, h]
@[simp] theorem requests_modTransmit (p q : Port) (f : TransmitUnit → TransmitUnit) :
    ((s.modTransmit p f).port q).requests = (s.port q).requests := by
  by_cases h : q = p
  · subst h; simp [State.modTransmit]
  · simp [State.modTransmit, h]
@[simp] theorem transmit_modTransmit_same (p : Port) (f : TransmitUnit → TransmitUnit) :
    ((s.modTransmit p f).port p).transmit = f (s.port p).transmit := by simp [State.modTransmit]
@[simp] theorem aperture_modTransmit (p q : Port) (f : TransmitUnit → TransmitUnit) :
    ((s.modTransmit p f).port q).aperture = (s.port q).aperture := by
  by_cases h : q = p
  · subst h; simp [State.modTransmit]
  · simp [State.modTransmit, h]
@[simp] theorem sent_modTransmit (p q : Port) (f : TransmitUnit → TransmitUnit) :
    ((s.modTransmit p f).port q).sent = (s.port q).sent := by
  by_cases h : q = p
  · subst h; simp [State.modTransmit]
  · simp [State.modTransmit, h]
@[simp] theorem port_modTransmit_ne {p q : Port} (h : q ≠ p) (f : TransmitUnit → TransmitUnit) :
    (s.modTransmit p f).port q = s.port q := by simp [State.modTransmit, h]
@[simp] theorem link_modAperture (p q : Port) (f : Aperture → Aperture) :
    ((s.modAperture p f).port q).link = (s.port q).link := by
  by_cases h : q = p
  · subst h; simp [State.modAperture]
  · simp [State.modAperture, h]
@[simp] theorem session_modAperture (p q : Port) (f : Aperture → Aperture) :
    ((s.modAperture p f).port q).session = (s.port q).session := by
  by_cases h : q = p
  · subst h; simp [State.modAperture]
  · simp [State.modAperture, h]
@[simp] theorem requests_modAperture (p q : Port) (f : Aperture → Aperture) :
    ((s.modAperture p f).port q).requests = (s.port q).requests := by
  by_cases h : q = p
  · subst h; simp [State.modAperture]
  · simp [State.modAperture, h]
@[simp] theorem transmit_modAperture (p q : Port) (f : Aperture → Aperture) :
    ((s.modAperture p f).port q).transmit = (s.port q).transmit := by
  by_cases h : q = p
  · subst h; simp [State.modAperture]
  · simp [State.modAperture, h]
@[simp] theorem aperture_modAperture_same (p : Port) (f : Aperture → Aperture) :
    ((s.modAperture p f).port p).aperture = f (s.port p).aperture := by simp [State.modAperture]
@[simp] theorem sent_modAperture (p q : Port) (f : Aperture → Aperture) :
    ((s.modAperture p f).port q).sent = (s.port q).sent := by
  by_cases h : q = p
  · subst h; simp [State.modAperture]
  · simp [State.modAperture, h]
@[simp] theorem port_modAperture_ne {p q : Port} (h : q ≠ p) (f : Aperture → Aperture) :
    (s.modAperture p f).port q = s.port q := by simp [State.modAperture, h]
@[simp] theorem link_send (p q : Port) (f : LinkFrame) :
    ((s.send p f).port q).link = (s.port q).link := by
  by_cases h : q = p
  · subst h; simp [State.send]
  · simp [State.send, h]
@[simp] theorem session_send (p q : Port) (f : LinkFrame) :
    ((s.send p f).port q).session = (s.port q).session := by
  by_cases h : q = p
  · subst h; simp [State.send]
  · simp [State.send, h]
@[simp] theorem requests_send (p q : Port) (f : LinkFrame) :
    ((s.send p f).port q).requests = (s.port q).requests := by
  by_cases h : q = p
  · subst h; simp [State.send]
  · simp [State.send, h]
@[simp] theorem transmit_send (p q : Port) (f : LinkFrame) :
    ((s.send p f).port q).transmit = (s.port q).transmit := by
  by_cases h : q = p
  · subst h; simp [State.send]
  · simp [State.send, h]
@[simp] theorem aperture_send (p q : Port) (f : LinkFrame) :
    ((s.send p f).port q).aperture = (s.port q).aperture := by
  by_cases h : q = p
  · subst h; simp [State.send]
  · simp [State.send, h]
@[simp] theorem sent_send_same (p : Port) (f : LinkFrame) :
    ((s.send p f).port p).sent = (s.port p).sent ++ [f] := by simp [State.send]
@[simp] theorem port_send_ne {p q : Port} (h : q ≠ p) (f : LinkFrame) :
    (s.send p f).port q = s.port q := by simp [State.send, h]

@[simp] theorem link_setSlot (p q : Port) (g : Nat) (m : Option Mapping) :
    ((s.setSlot p g m).port q).link = (s.port q).link := by simp [State.setSlot]
@[simp] theorem session_setSlot (p q : Port) (g : Nat) (m : Option Mapping) :
    ((s.setSlot p g m).port q).session = (s.port q).session := by simp [State.setSlot]
@[simp] theorem requests_setSlot (p q : Port) (g : Nat) (m : Option Mapping) :
    ((s.setSlot p g m).port q).requests = (s.port q).requests := by simp [State.setSlot]
@[simp] theorem transmit_setSlot (p q : Port) (g : Nat) (m : Option Mapping) :
    ((s.setSlot p g m).port q).transmit = (s.port q).transmit := by simp [State.setSlot]
@[simp] theorem sent_setSlot (p q : Port) (g : Nat) (m : Option Mapping) :
    ((s.setSlot p g m).port q).sent = (s.port q).sent := by simp [State.setSlot]

/-! ### Updates that touch no port -/

@[simp] theorem port_modPool (f : PoolManager → PoolManager) (q : Port) : (s.modPool f).port q = s.port q := rfl
@[simp] theorem port_setFrame (f : Nat) (r : FrameRecord) (q : Port) : (s.setFrame f r).port q = s.port q := rfl
@[simp] theorem port_modRegion (k : Slot) (f : Region → Region) (q : Port) : (s.modRegion k f).port q = s.port q := rfl
@[simp] theorem port_settleScrub (q : Port) : s.settleScrub.port q = s.port q := rfl
@[simp] theorem port_hold (f : Nat) (q : Port) : (s.hold f).port q = s.port q := rfl
@[simp] theorem port_pin (f : Nat) (q : Port) : (s.pin f).port q = s.port q := rfl
@[simp] theorem port_countRetired (k : Slot) (q : Port) : (s.countRetired k).port q = s.port q := rfl
@[simp] theorem port_queueScrub (f : Nat) (q : Port) : (s.queueScrub f).port q = s.port q := rfl
@[simp] theorem port_modShare (f : ShareUnit → ShareUnit) (q : Port) : (s.modShare f).port q = s.port q := rfl
@[simp] theorem port_removeOffer (n : Byte) (q : Port) : (s.removeOffer n).port q = s.port q := rfl
@[simp] theorem port_reachTime (d : Nat) (q : Port) : (s.reachTime d).port q = s.port q := rfl

/-! ### The field that an update names -/

@[simp] theorem pool_modPool (f : PoolManager → PoolManager) : (s.modPool f).pool = f s.pool := rfl
@[simp] theorem share_modShare (f : ShareUnit → ShareUnit) : (s.modShare f).share = f s.share := rfl
@[simp] theorem now_reachTime (d : Nat) : (s.reachTime d).now = max s.now d := rfl

/-! ### Plain record updates seen through a port -/

@[simp] theorem port_withInFlight (o : Option Operation) (q : Port) :
    ({ s with inFlight := o } : State).port q = s.port q := rfl
@[simp] theorem port_withRole (r : AdminRole) (q : Port) :
    ({ s with role := r } : State).port q = s.port q := rfl
@[simp] theorem port_withPending (l : List Instr) (q : Port) :
    ({ s with pending := l } : State).port q = s.port q := rfl
@[simp] theorem port_withPool (x : PoolManager) (q : Port) :
    ({ s with pool := x } : State).port q = s.port q := rfl
@[simp] theorem port_withScheduler (x : Scheduler) (q : Port) :
    ({ s with scheduler := x } : State).port q = s.port q := rfl

/-! ### Updates that come to the same -/

/-- Only the value of the change at the port itself counts. -/
theorem modPort_congr {p : Port} {f g : PortState → PortState} (h : f (s.port p) = g (s.port p)) :
    s.modPort p f = s.modPort p g := by
  unfold State.modPort
  rw [show f s.ports[p] = g s.ports[p] from h]

/-- A change that leaves the port as it is leaves the state as it is. -/
theorem modPort_id {p : Port} {f : PortState → PortState} (h : f (s.port p) = s.port p) :
    s.modPort p f = s := by
  unfold State.modPort
  rw [show f s.ports[p] = s.ports[p] from h]
  simp

/-- Two changes of one port are one. -/
theorem modPort_modPort (p : Port) (f g : PortState → PortState) :
    (s.modPort p f).modPort p g = s.modPort p fun q => g (f q) := by
  simp [State.modPort]

theorem modLink_congr {p : Port} {f g : LinkUnit → LinkUnit}
    (h : f (s.port p).link = g (s.port p).link) : s.modLink p f = s.modLink p g :=
  modPort_congr s (by simp [h])
theorem modLink_id {p : Port} {f : LinkUnit → LinkUnit} (h : f (s.port p).link = (s.port p).link) :
    s.modLink p f = s :=
  modPort_id s (by simp [h])
theorem modSession_congr {p : Port} {f g : PortController → PortController}
    (h : f (s.port p).session = g (s.port p).session) : s.modSession p f = s.modSession p g :=
  modPort_congr s (by simp [h])
theorem modSession_id {p : Port} {f : PortController → PortController} (h : f (s.port p).session = (s.port p).session) :
    s.modSession p f = s :=
  modPort_id s (by simp [h])
theorem modRequests_congr {p : Port} {f g : RequestUnit → RequestUnit}
    (h : f (s.port p).requests = g (s.port p).requests) : s.modRequests p f = s.modRequests p g :=
  modPort_congr s (by simp [h])
theorem modRequests_id {p : Port} {f : RequestUnit → RequestUnit} (h : f (s.port p).requests = (s.port p).requests) :
    s.modRequests p f = s :=
  modPort_id s (by simp [h])
theorem modTransmit_congr {p : Port} {f g : TransmitUnit → TransmitUnit}
    (h : f (s.port p).transmit = g (s.port p).transmit) : s.modTransmit p f = s.modTransmit p g :=
  modPort_congr s (by simp [h])
theorem modTransmit_id {p : Port} {f : TransmitUnit → TransmitUnit} (h : f (s.port p).transmit = (s.port p).transmit) :
    s.modTransmit p f = s :=
  modPort_id s (by simp [h])
theorem modAperture_congr {p : Port} {f g : Aperture → Aperture}
    (h : f (s.port p).aperture = g (s.port p).aperture) : s.modAperture p f = s.modAperture p g :=
  modPort_congr s (by simp [h])
theorem modAperture_id {p : Port} {f : Aperture → Aperture} (h : f (s.port p).aperture = (s.port p).aperture) :
    s.modAperture p f = s :=
  modPort_id s (by simp [h])

end Sys2Proof.Machine
end

