-- ==== Sys2Proof/Laws/Ops.lean ====
section
/-! SUPPORT. What the shared operations leave alone. `Settles s t` says that t differs from s in no more than the pool,
the offers, the apertures and the notices that wait; `Quiet s t` that it differs in no more than the pool and the
notices. Each operation has one lemma that says which of the two it keeps. -/

namespace Sys2Proof.Machine

/-! ### The two relations -/

/-- A port's state, but for its aperture and its notices, is the same. -/
structure SamePort (a b : PortState) : Prop where
  link : b.link = a.link
  session : b.session = a.session
  requests : b.requests = a.requests
  sent : b.sent = a.sent
  refusals : b.transmit.refusals = a.transmit.refusals
  hold : b.transmit.hold = a.transmit.hold
  holdTimer : b.transmit.holdTimer = a.transmit.holdTimer
  overdueSent : b.transmit.overdueSent = a.transmit.overdueSent
  burst : b.transmit.burst = a.transmit.burst

theorem SamePort.refl (a : PortState) : SamePort a a := ⟨rfl, rfl, rfl, rfl, rfl, rfl, rfl, rfl, rfl⟩

theorem SamePort.trans {a b c : PortState} (h : SamePort a b) (g : SamePort b c) : SamePort a c :=
  ⟨g.link.trans h.link, g.session.trans h.session, g.requests.trans h.requests, g.sent.trans h.sent,
    g.refusals.trans h.refusals, g.hold.trans h.hold, g.holdTimer.trans h.holdTimer,
    g.overdueSent.trans h.overdueSent, g.burst.trans h.burst⟩

/-- The fields of the state that belong to no port and to neither the pool nor the offers. -/
structure SameRest (s t : State) : Prop where
  scheduler : t.scheduler = s.scheduler
  inFlight : t.inFlight = s.inFlight
  dram : t.dram = s.dram
  holdLimit : t.holdLimit = s.holdLimit
  replayTimeout : t.replayTimeout = s.replayTimeout
  resetLow : t.resetLow = s.resetLow
  now : t.now = s.now
  freeIndex : t.freeIndex = s.freeIndex
  pending : t.pending = s.pending

theorem SameRest.refl (s : State) : SameRest s s := ⟨rfl, rfl, rfl, rfl, rfl, rfl, rfl, rfl, rfl⟩

theorem SameRest.trans {s t u : State} (h : SameRest s t) (g : SameRest t u) : SameRest s u :=
  ⟨g.scheduler.trans h.scheduler, g.inFlight.trans h.inFlight, g.dram.trans h.dram,
    g.holdLimit.trans h.holdLimit, g.replayTimeout.trans h.replayTimeout, g.resetLow.trans h.resetLow,
    g.now.trans h.now, g.freeIndex.trans h.freeIndex, g.pending.trans h.pending⟩

/-- No more than the pool, the offers, the apertures and the waiting notices differ. -/
structure Settles (s t : State) : Prop where
  rest : SameRest s t
  role : t.role = s.role
  port : ∀ q, SamePort (s.port q) (t.port q)

theorem Settles.refl (s : State) : Settles s s := ⟨.refl s, rfl, fun _ => .refl _⟩

theorem Settles.trans {s t u : State} (h : Settles s t) (g : Settles t u) : Settles s u :=
  ⟨h.rest.trans g.rest, g.role.trans h.role, fun q => (h.port q).trans (g.port q)⟩

theorem Settles.inSession {s t : State} (h : Settles s t) (p : Port) :
    t.inSession p = s.inSession p := by
  simp [State.inSession, (h.port p).session]

/-- No more than the pool and the waiting notices differ. -/
structure Quiet (s t : State) : Prop where
  settles : Settles s t
  share : t.share = s.share
  aperture : ∀ q, (t.port q).aperture = (s.port q).aperture

theorem Quiet.refl (s : State) : Quiet s s := ⟨.refl s, rfl, fun _ => rfl⟩

theorem Quiet.trans {s t u : State} (h : Quiet s t) (g : Quiet t u) : Quiet s u :=
  ⟨h.settles.trans g.settles, g.share.trans h.share, fun q => (g.aperture q).trans (h.aperture q)⟩

/-- A fold of operations that keep the relation keeps it. -/
theorem Quiet.foldl {β : Type} (f : State → β → State) (h : ∀ s b, Quiet s (f s b)) (l : List β)
    (s : State) : Quiet s (l.foldl f s) := by
  induction l generalizing s with
  | nil => exact .refl s
  | cons b l ih => exact (h s b).trans (ih (f s b))

theorem Settles.foldl {β : Type} (f : State → β → State) (h : ∀ s b, Settles s (f s b)) (l : List β)
    (s : State) : Settles s (l.foldl f s) := by
  induction l generalizing s with
  | nil => exact .refl s
  | cons b l ih => exact (h s b).trans (ih (f s b))

/-! ### The answer while RESET# is low -/

/-- With RESET# high a command answers its effect. -/
theorem whenRunning_high {s : State} (h : s.resetLow = false) (next : State) :
    whenRunning s next = .next next := by
  simp [whenRunning, h]

/-- With RESET# low a command answers the state unchanged. -/
theorem whenRunning_low {s : State} (h : s.resetLow = true) (next : State) :
    whenRunning s next = .next s := by
  simp [whenRunning, h]

/-- What every command but those of the reset pins can answer. -/
theorem whenRunning_eq_next {s next t : State} :
    whenRunning s next = .next t ↔ t = if s.resetLow then s else next := by
  unfold whenRunning
  constructor
  · intro h; cases h; rfl
  · rintro rfl; rfl

/-! ### Notices -/

/-- The entry rule (R151): the queue takes the notice when it has room. -/
theorem enterNotice_room {t : TransmitUnit} (h : t.notices.length < Config.noticePlaces) (n : Notice) :
    t.enterNotice n = { t with notices := t.notices ++ [n] } := by
  simp [TransmitUnit.enterNotice, h]

/-- The entry rule (R151): a full queue drops the notice and counts it. -/
theorem enterNotice_full {t : TransmitUnit} (h : ¬t.notices.length < Config.noticePlaces) (n : Notice) :
    t.enterNotice n = { t with lost := min 255 (t.lost + 1) } := by
  simp [TransmitUnit.enterNotice, h]

theorem enterNotice_quiet (s : State) (p : Port) (n : Notice) : Quiet s (s.enterNotice p n) := by
  have key : ∀ q, SamePort (s.port q) ((s.enterNotice p n).port q) ∧
      ((s.enterNotice p n).port q).aperture = (s.port q).aperture := by
    intro q
    by_cases h : q = p
    · subst h
      by_cases hr : (s.port q).transmit.notices.length < Config.noticePlaces
      · constructor
        · constructor <;> simp [State.enterNotice, enterNotice_room hr]
        · simp [State.enterNotice]
      · constructor
        · constructor <;> simp [State.enterNotice, enterNotice_full hr]
        · simp [State.enterNotice]
    · have e : (s.enterNotice p n).port q = s.port q := port_modTransmit_ne s h _
      rw [e]
      exact ⟨.refl _, rfl⟩
  exact ⟨⟨⟨rfl, rfl, rfl, rfl, rfl, rfl, rfl, rfl, rfl⟩, rfl, fun q => (key q).1⟩, rfl, fun q => (key q).2⟩

theorem raiseNotice_quiet (s : State) (p : Port) (n : Notice) : Quiet s (s.raiseNotice p n) := by
  unfold State.raiseNotice
  split
  · exact enterNotice_quiet s p n
  · exact .refl s

theorem raiseForAdmin_quiet (s : State) (n : Notice) : Quiet s (s.raiseForAdmin n) := by
  unfold State.raiseForAdmin
  split
  · exact raiseNotice_quiet _ _ _
  · exact .refl s
  · exact .refl s

theorem raisePortState_quiet (s : State) (p : Port) (st : SessionState) (c : SessionCause) :
    Quiet s (s.raisePortState p st c) := by
  unfold State.raisePortState
  split
  · exact .refl s
  · exact raiseForAdmin_quiet _ _

theorem raiseAdminChanged_quiet (s : State) (h : Option Port) : Quiet s (s.raiseAdminChanged h) :=
  Quiet.foldl _ (fun t p => raiseNotice_quiet t p _) allPorts s

theorem raiseOfferNotices_quiet (s : State) (offers : List Offer) (note : Offer → Port × Notice) :
    Quiet s (s.raiseOfferNotices offers note) :=
  Quiet.foldl _ (fun t _ => raiseNotice_quiet t _ _) offers s

/-- A notice for a port out of session is discarded (R150). -/
theorem raiseNotice_out {s : State} {p : Port} (h : s.inSession p = false) (n : Notice) :
    s.raiseNotice p n = s := by
  simp [State.raiseNotice, h]

/-- A notice for a port in session meets the entry rule (R150, R151). -/
theorem raiseNotice_in {s : State} {p : Port} (h : s.inSession p = true) (n : Notice) :
    s.raiseNotice p n = s.enterNotice p n := by
  simp [State.raiseNotice, h]

/-- The notices of another port stay as they are. -/
theorem transmit_raiseNotice_ne (s : State) {p q : Port} (h : q ≠ p) (n : Notice) :
    ((s.raiseNotice p n).port q) = s.port q := by
  unfold State.raiseNotice
  split
  · exact port_modTransmit_ne s h _
  · rfl

/-! ### The fields that notices leave alone -/

@[simp] theorem link_enterNotice (s : State) (p : Port) (n : Notice) (q : Port) :
    ((s.enterNotice p n).port q).link = (s.port q).link := ((enterNotice_quiet s p n).settles.port q).link
@[simp] theorem session_enterNotice (s : State) (p : Port) (n : Notice) (q : Port) :
    ((s.enterNotice p n).port q).session = (s.port q).session := ((enterNotice_quiet s p n).settles.port q).session
@[simp] theorem requests_enterNotice (s : State) (p : Port) (n : Notice) (q : Port) :
    ((s.enterNotice p n).port q).requests = (s.port q).requests := ((enterNotice_quiet s p n).settles.port q).requests
@[simp] theorem sent_enterNotice (s : State) (p : Port) (n : Notice) (q : Port) :
    ((s.enterNotice p n).port q).sent = (s.port q).sent := ((enterNotice_quiet s p n).settles.port q).sent
@[simp] theorem aperture_enterNotice (s : State) (p : Port) (n : Notice) (q : Port) :
    ((s.enterNotice p n).port q).aperture = (s.port q).aperture := (enterNotice_quiet s p n).aperture q
@[simp] theorem scheduler_raiseNotice (s : State) (p : Port) (n : Notice) : (s.raiseNotice p n).scheduler = s.scheduler :=
  (raiseNotice_quiet s p n).settles.rest.scheduler
@[simp] theorem inFlight_raiseNotice (s : State) (p : Port) (n : Notice) : (s.raiseNotice p n).inFlight = s.inFlight :=
  (raiseNotice_quiet s p n).settles.rest.inFlight
@[simp] theorem dram_raiseNotice (s : State) (p : Port) (n : Notice) : (s.raiseNotice p n).dram = s.dram :=
  (raiseNotice_quiet s p n).settles.rest.dram
@[simp] theorem holdLimit_raiseNotice (s : State) (p : Port) (n : Notice) : (s.raiseNotice p n).holdLimit = s.holdLimit :=
  (raiseNotice_quiet s p n).settles.rest.holdLimit
@[simp] theorem replayTimeout_raiseNotice (s : State) (p : Port) (n : Notice) : (s.raiseNotice p n).replayTimeout = s.replayTimeout :=
  (raiseNotice_quiet s p n).settles.rest.replayTimeout
@[simp] theorem resetLow_raiseNotice (s : State) (p : Port) (n : Notice) : (s.raiseNotice p n).resetLow = s.resetLow :=
  (raiseNotice_quiet s p n).settles.rest.resetLow
@[simp] theorem now_raiseNotice (s : State) (p : Port) (n : Notice) : (s.raiseNotice p n).now = s.now :=
  (raiseNotice_quiet s p n).settles.rest.now
@[simp] theorem freeIndex_raiseNotice (s : State) (p : Port) (n : Notice) : (s.raiseNotice p n).freeIndex = s.freeIndex :=
  (raiseNotice_quiet s p n).settles.rest.freeIndex
@[simp] theorem pending_raiseNotice (s : State) (p : Port) (n : Notice) : (s.raiseNotice p n).pending = s.pending :=
  (raiseNotice_quiet s p n).settles.rest.pending
@[simp] theorem role_raiseNotice (s : State) (p : Port) (n : Notice) : (s.raiseNotice p n).role = s.role :=
  (raiseNotice_quiet s p n).settles.role
@[simp] theorem share_raiseNotice (s : State) (p : Port) (n : Notice) : (s.raiseNotice p n).share = s.share :=
  (raiseNotice_quiet s p n).share
@[simp] theorem link_raiseNotice (s : State) (p : Port) (n : Notice) (q : Port) :
    ((s.raiseNotice p n).port q).link = (s.port q).link := ((raiseNotice_quiet s p n).settles.port q).link
@[simp] theorem session_raiseNotice (s : State) (p : Port) (n : Notice) (q : Port) :
    ((s.raiseNotice p n).port q).session = (s.port q).session := ((raiseNotice_quiet s p n).settles.port q).session
@[simp] theorem requests_raiseNotice (s : State) (p : Port) (n : Notice) (q : Port) :
    ((s.raiseNotice p n).port q).requests = (s.port q).requests := ((raiseNotice_quiet s p n).settles.port q).requests
@[simp] theorem sent_raiseNotice (s : State) (p : Port) (n : Notice) (q : Port) :
    ((s.raiseNotice p n).port q).sent = (s.port q).sent := ((raiseNotice_quiet s p n).settles.port q).sent
@[simp] theorem aperture_raiseNotice (s : State) (p : Port) (n : Notice) (q : Port) :
    ((s.raiseNotice p n).port q).aperture = (s.port q).aperture := (raiseNotice_quiet s p n).aperture q
@[simp] theorem scheduler_raiseForAdmin (s : State) (n : Notice) : (s.raiseForAdmin n).scheduler = s.scheduler :=
  (raiseForAdmin_quiet s n).settles.rest.scheduler
@[simp] theorem inFlight_raiseForAdmin (s : State) (n : Notice) : (s.raiseForAdmin n).inFlight = s.inFlight :=
  (raiseForAdmin_quiet s n).settles.rest.inFlight
@[simp] theorem dram_raiseForAdmin (s : State) (n : Notice) : (s.raiseForAdmin n).dram = s.dram :=
  (raiseForAdmin_quiet s n).settles.rest.dram
@[simp] theorem holdLimit_raiseForAdmin (s : State) (n : Notice) : (s.raiseForAdmin n).holdLimit = s.holdLimit :=
  (raiseForAdmin_quiet s n).settles.rest.holdLimit
@[simp] theorem replayTimeout_raiseForAdmin (s : State) (n : Notice) : (s.raiseForAdmin n).replayTimeout = s.replayTimeout :=
  (raiseForAdmin_quiet s n).settles.rest.replayTimeout
@[simp] theorem resetLow_raiseForAdmin (s : State) (n : Notice) : (s.raiseForAdmin n).resetLow = s.resetLow :=
  (raiseForAdmin_quiet s n).settles.rest.resetLow
@[simp] theorem now_raiseForAdmin (s : State) (n : Notice) : (s.raiseForAdmin n).now = s.now :=
  (raiseForAdmin_quiet s n).settles.rest.now
@[simp] theorem freeIndex_raiseForAdmin (s : State) (n : Notice) : (s.raiseForAdmin n).freeIndex = s.freeIndex :=
  (raiseForAdmin_quiet s n).settles.rest.freeIndex
@[simp] theorem pending_raiseForAdmin (s : State) (n : Notice) : (s.raiseForAdmin n).pending = s.pending :=
  (raiseForAdmin_quiet s n).settles.rest.pending
@[simp] theorem role_raiseForAdmin (s : State) (n : Notice) : (s.raiseForAdmin n).role = s.role :=
  (raiseForAdmin_quiet s n).settles.role
@[simp] theorem share_raiseForAdmin (s : State) (n : Notice) : (s.raiseForAdmin n).share = s.share :=
  (raiseForAdmin_quiet s n).share
@[simp] theorem link_raiseForAdmin (s : State) (n : Notice) (q : Port) :
    ((s.raiseForAdmin n).port q).link = (s.port q).link := ((raiseForAdmin_quiet s n).settles.port q).link
@[simp] theorem session_raiseForAdmin (s : State) (n : Notice) (q : Port) :
    ((s.raiseForAdmin n).port q).session = (s.port q).session := ((raiseForAdmin_quiet s n).settles.port q).session
@[simp] theorem requests_raiseForAdmin (s : State) (n : Notice) (q : Port) :
    ((s.raiseForAdmin n).port q).requests = (s.port q).requests := ((raiseForAdmin_quiet s n).settles.port q).requests
@[simp] theorem sent_raiseForAdmin (s : State) (n : Notice) (q : Port) :
    ((s.raiseForAdmin n).port q).sent = (s.port q).sent := ((raiseForAdmin_quiet s n).settles.port q).sent
@[simp] theorem aperture_raiseForAdmin (s : State) (n : Notice) (q : Port) :
    ((s.raiseForAdmin n).port q).aperture = (s.port q).aperture := (raiseForAdmin_quiet s n).aperture q
@[simp] theorem scheduler_raisePortState (s : State) (p : Port) (st : SessionState) (c : SessionCause) : (s.raisePortState p st c).scheduler = s.scheduler :=
  (raisePortState_quiet s p st c).settles.rest.scheduler
@[simp] theorem inFlight_raisePortState (s : State) (p : Port) (st : SessionState) (c : SessionCause) : (s.raisePortState p st c).inFlight = s.inFlight :=
  (raisePortState_quiet s p st c).settles.rest.inFlight
@[simp] theorem dram_raisePortState (s : State) (p : Port) (st : SessionState) (c : SessionCause) : (s.raisePortState p st c).dram = s.dram :=
  (raisePortState_quiet s p st c).settles.rest.dram
@[simp] theorem holdLimit_raisePortState (s : State) (p : Port) (st : SessionState) (c : SessionCause) : (s.raisePortState p st c).holdLimit = s.holdLimit :=
  (raisePortState_quiet s p st c).settles.rest.holdLimit
@[simp] theorem replayTimeout_raisePortState (s : State) (p : Port) (st : SessionState) (c : SessionCause) : (s.raisePortState p st c).replayTimeout = s.replayTimeout :=
  (raisePortState_quiet s p st c).settles.rest.replayTimeout
@[simp] theorem resetLow_raisePortState (s : State) (p : Port) (st : SessionState) (c : SessionCause) : (s.raisePortState p st c).resetLow = s.resetLow :=
  (raisePortState_quiet s p st c).settles.rest.resetLow
@[simp] theorem now_raisePortState (s : State) (p : Port) (st : SessionState) (c : SessionCause) : (s.raisePortState p st c).now = s.now :=
  (raisePortState_quiet s p st c).settles.rest.now
@[simp] theorem freeIndex_raisePortState (s : State) (p : Port) (st : SessionState) (c : SessionCause) : (s.raisePortState p st c).freeIndex = s.freeIndex :=
  (raisePortState_quiet s p st c).settles.rest.freeIndex
@[simp] theorem pending_raisePortState (s : State) (p : Port) (st : SessionState) (c : SessionCause) : (s.raisePortState p st c).pending = s.pending :=
  (raisePortState_quiet s p st c).settles.rest.pending
@[simp] theorem role_raisePortState (s : State) (p : Port) (st : SessionState) (c : SessionCause) : (s.raisePortState p st c).role = s.role :=
  (raisePortState_quiet s p st c).settles.role
@[simp] theorem share_raisePortState (s : State) (p : Port) (st : SessionState) (c : SessionCause) : (s.raisePortState p st c).share = s.share :=
  (raisePortState_quiet s p st c).share
@[simp] theorem link_raisePortState (s : State) (p : Port) (st : SessionState) (c : SessionCause) (q : Port) :
    ((s.raisePortState p st c).port q).link = (s.port q).link := ((raisePortState_quiet s p st c).settles.port q).link
@[simp] theorem session_raisePortState (s : State) (p : Port) (st : SessionState) (c : SessionCause) (q : Port) :
    ((s.raisePortState p st c).port q).session = (s.port q).session := ((raisePortState_quiet s p st c).settles.port q).session
@[simp] theorem requests_raisePortState (s : State) (p : Port) (st : SessionState) (c : SessionCause) (q : Port) :
    ((s.raisePortState p st c).port q).requests = (s.port q).requests := ((raisePortState_quiet s p st c).settles.port q).requests
@[simp] theorem sent_raisePortState (s : State) (p : Port) (st : SessionState) (c : SessionCause) (q : Port) :
    ((s.raisePortState p st c).port q).sent = (s.port q).sent := ((raisePortState_quiet s p st c).settles.port q).sent
@[simp] theorem aperture_raisePortState (s : State) (p : Port) (st : SessionState) (c : SessionCause) (q : Port) :
    ((s.raisePortState p st c).port q).aperture = (s.port q).aperture := (raisePortState_quiet s p st c).aperture q
@[simp] theorem scheduler_raiseAdminChanged (s : State) (h : Option Port) : (s.raiseAdminChanged h).scheduler = s.scheduler :=
  (raiseAdminChanged_quiet s h).settles.rest.scheduler
@[simp] theorem inFlight_raiseAdminChanged (s : State) (h : Option Port) : (s.raiseAdminChanged h).inFlight = s.inFlight :=
  (raiseAdminChanged_quiet s h).settles.rest.inFlight
@[simp] theorem dram_raiseAdminChanged (s : State) (h : Option Port) : (s.raiseAdminChanged h).dram = s.dram :=
  (raiseAdminChanged_quiet s h).settles.rest.dram
@[simp] theorem holdLimit_raiseAdminChanged (s : State) (h : Option Port) : (s.raiseAdminChanged h).holdLimit = s.holdLimit :=
  (raiseAdminChanged_quiet s h).settles.rest.holdLimit
@[simp] theorem replayTimeout_raiseAdminChanged (s : State) (h : Option Port) : (s.raiseAdminChanged h).replayTimeout = s.replayTimeout :=
  (raiseAdminChanged_quiet s h).settles.rest.replayTimeout
@[simp] theorem resetLow_raiseAdminChanged (s : State) (h : Option Port) : (s.raiseAdminChanged h).resetLow = s.resetLow :=
  (raiseAdminChanged_quiet s h).settles.rest.resetLow
@[simp] theorem now_raiseAdminChanged (s : State) (h : Option Port) : (s.raiseAdminChanged h).now = s.now :=
  (raiseAdminChanged_quiet s h).settles.rest.now
@[simp] theorem freeIndex_raiseAdminChanged (s : State) (h : Option Port) : (s.raiseAdminChanged h).freeIndex = s.freeIndex :=
  (raiseAdminChanged_quiet s h).settles.rest.freeIndex
@[simp] theorem pending_raiseAdminChanged (s : State) (h : Option Port) : (s.raiseAdminChanged h).pending = s.pending :=
  (raiseAdminChanged_quiet s h).settles.rest.pending

/-- What a notice raised for a port does to every Transmit Unit (R150, R151). -/
theorem transmit_raiseNotice (s : State) (p q : Port) (n : Notice) :
    ((s.raiseNotice p n).port q).transmit =
      if q = p ∧ s.inSession q = true then (s.port q).transmit.enterNotice n
      else (s.port q).transmit := by
  unfold State.raiseNotice State.enterNotice
  by_cases h : q = p
  · subst h
    split <;> simp_all
  · split <;> simp [h]

/-- What ADMIN_CHANGED does to every Transmit Unit: one notice for each port in session (R183). -/
theorem transmit_raiseAdminChanged (s : State) (h : Option Port) (q : Port) :
    ((s.raiseAdminChanged h).port q).transmit =
      if s.inSession q = true then (s.port q).transmit.enterNotice (.adminChanged h)
      else (s.port q).transmit := by
  unfold State.raiseAdminChanged allPorts
  simp only [List.foldl_cons, List.foldl_nil, transmit_raiseNotice, State.inSession,
    session_raiseNotice]
  fin_cases q <;> simp <;> rfl

@[simp] theorem role_raiseAdminChanged (s : State) (h : Option Port) : (s.raiseAdminChanged h).role = s.role :=
  (raiseAdminChanged_quiet s h).settles.role
@[simp] theorem share_raiseAdminChanged (s : State) (h : Option Port) : (s.raiseAdminChanged h).share = s.share :=
  (raiseAdminChanged_quiet s h).share
@[simp] theorem link_raiseAdminChanged (s : State) (h : Option Port) (q : Port) :
    ((s.raiseAdminChanged h).port q).link = (s.port q).link := ((raiseAdminChanged_quiet s h).settles.port q).link
@[simp] theorem session_raiseAdminChanged (s : State) (h : Option Port) (q : Port) :
    ((s.raiseAdminChanged h).port q).session = (s.port q).session := ((raiseAdminChanged_quiet s h).settles.port q).session
@[simp] theorem requests_raiseAdminChanged (s : State) (h : Option Port) (q : Port) :
    ((s.raiseAdminChanged h).port q).requests = (s.port q).requests := ((raiseAdminChanged_quiet s h).settles.port q).requests
@[simp] theorem sent_raiseAdminChanged (s : State) (h : Option Port) (q : Port) :
    ((s.raiseAdminChanged h).port q).sent = (s.port q).sent := ((raiseAdminChanged_quiet s h).settles.port q).sent
@[simp] theorem aperture_raiseAdminChanged (s : State) (h : Option Port) (q : Port) :
    ((s.raiseAdminChanged h).port q).aperture = (s.port q).aperture := (raiseAdminChanged_quiet s h).aperture q
@[simp] theorem scheduler_raiseOfferNotices (s : State) (l : List Offer) (note : Offer → Port × Notice) : (s.raiseOfferNotices l note).scheduler = s.scheduler :=
  (raiseOfferNotices_quiet s l note).settles.rest.scheduler
@[simp] theorem inFlight_raiseOfferNotices (s : State) (l : List Offer) (note : Offer → Port × Notice) : (s.raiseOfferNotices l note).inFlight = s.inFlight :=
  (raiseOfferNotices_quiet s l note).settles.rest.inFlight
@[simp] theorem dram_raiseOfferNotices (s : State) (l : List Offer) (note : Offer → Port × Notice) : (s.raiseOfferNotices l note).dram = s.dram :=
  (raiseOfferNotices_quiet s l note).settles.rest.dram
@[simp] theorem holdLimit_raiseOfferNotices (s : State) (l : List Offer) (note : Offer → Port × Notice) : (s.raiseOfferNotices l note).holdLimit = s.holdLimit :=
  (raiseOfferNotices_quiet s l note).settles.rest.holdLimit
@[simp] theorem replayTimeout_raiseOfferNotices (s : State) (l : List Offer) (note : Offer → Port × Notice) : (s.raiseOfferNotices l note).replayTimeout = s.replayTimeout :=
  (raiseOfferNotices_quiet s l note).settles.rest.replayTimeout
@[simp] theorem resetLow_raiseOfferNotices (s : State) (l : List Offer) (note : Offer → Port × Notice) : (s.raiseOfferNotices l note).resetLow = s.resetLow :=
  (raiseOfferNotices_quiet s l note).settles.rest.resetLow
@[simp] theorem now_raiseOfferNotices (s : State) (l : List Offer) (note : Offer → Port × Notice) : (s.raiseOfferNotices l note).now = s.now :=
  (raiseOfferNotices_quiet s l note).settles.rest.now
@[simp] theorem freeIndex_raiseOfferNotices (s : State) (l : List Offer) (note : Offer → Port × Notice) : (s.raiseOfferNotices l note).freeIndex = s.freeIndex :=
  (raiseOfferNotices_quiet s l note).settles.rest.freeIndex
@[simp] theorem pending_raiseOfferNotices (s : State) (l : List Offer) (note : Offer → Port × Notice) : (s.raiseOfferNotices l note).pending = s.pending :=
  (raiseOfferNotices_quiet s l note).settles.rest.pending
@[simp] theorem role_raiseOfferNotices (s : State) (l : List Offer) (note : Offer → Port × Notice) : (s.raiseOfferNotices l note).role = s.role :=
  (raiseOfferNotices_quiet s l note).settles.role
@[simp] theorem share_raiseOfferNotices (s : State) (l : List Offer) (note : Offer → Port × Notice) : (s.raiseOfferNotices l note).share = s.share :=
  (raiseOfferNotices_quiet s l note).share
@[simp] theorem link_raiseOfferNotices (s : State) (l : List Offer) (note : Offer → Port × Notice) (q : Port) :
    ((s.raiseOfferNotices l note).port q).link = (s.port q).link := ((raiseOfferNotices_quiet s l note).settles.port q).link
@[simp] theorem session_raiseOfferNotices (s : State) (l : List Offer) (note : Offer → Port × Notice) (q : Port) :
    ((s.raiseOfferNotices l note).port q).session = (s.port q).session := ((raiseOfferNotices_quiet s l note).settles.port q).session
@[simp] theorem requests_raiseOfferNotices (s : State) (l : List Offer) (note : Offer → Port × Notice) (q : Port) :
    ((s.raiseOfferNotices l note).port q).requests = (s.port q).requests := ((raiseOfferNotices_quiet s l note).settles.port q).requests
@[simp] theorem sent_raiseOfferNotices (s : State) (l : List Offer) (note : Offer → Port × Notice) (q : Port) :
    ((s.raiseOfferNotices l note).port q).sent = (s.port q).sent := ((raiseOfferNotices_quiet s l note).settles.port q).sent
@[simp] theorem aperture_raiseOfferNotices (s : State) (l : List Offer) (note : Offer → Port × Notice) (q : Port) :
    ((s.raiseOfferNotices l note).port q).aperture = (s.port q).aperture := (raiseOfferNotices_quiet s l note).aperture q

/-- Notices leave the pool alone. -/
@[simp] theorem pool_raiseNotice (s : State) (p : Port) (n : Notice) :
    (s.raiseNotice p n).pool = s.pool := by
  unfold State.raiseNotice; split <;> rfl
@[simp] theorem pool_raiseForAdmin (s : State) (n : Notice) : (s.raiseForAdmin n).pool = s.pool := by
  unfold State.raiseForAdmin; split <;> simp
@[simp] theorem pool_raisePortState (s : State) (p : Port) (st : SessionState) (c : SessionCause) :
    (s.raisePortState p st c).pool = s.pool := by
  unfold State.raisePortState; split <;> simp
theorem pool_foldl {β : Type} (f : State → β → State) (h : ∀ s b, (f s b).pool = s.pool) (l : List β)
    (s : State) : (l.foldl f s).pool = s.pool := by
  induction l generalizing s with
  | nil => rfl
  | cons b l ih => rw [List.foldl_cons, ih, h]
@[simp] theorem pool_raiseAdminChanged (s : State) (h : Option Port) :
    (s.raiseAdminChanged h).pool = s.pool :=
  pool_foldl _ (fun t p => pool_raiseNotice t p _) allPorts s
@[simp] theorem pool_raiseOfferNotices (s : State) (l : List Offer) (note : Offer → Port × Notice) :
    (s.raiseOfferNotices l note).pool = s.pool :=
  pool_foldl _ (fun t _ => pool_raiseNotice t _ _) l s

/-! ### The Pool Manager's operations -/

theorem modPool_quiet (s : State) (f : PoolManager → PoolManager) : Quiet s (s.modPool f) :=
  ⟨⟨⟨rfl, rfl, rfl, rfl, rfl, rfl, rfl, rfl, rfl⟩, rfl, fun _ => .refl _⟩, rfl, fun _ => rfl⟩

theorem setFrame_quiet (s : State) (f : Nat) (r : FrameRecord) : Quiet s (s.setFrame f r) :=
  modPool_quiet s _

theorem modRegion_quiet (s : State) (k : Slot) (f : Region → Region) : Quiet s (s.modRegion k f) :=
  modPool_quiet s _

theorem settleScrub_quiet (s : State) : Quiet s s.settleScrub := modPool_quiet s _

theorem retireRegion_quiet (s : State) (k : Slot) : Quiet s (s.retireRegion k) :=
  (modRegion_quiet s k _).trans (raiseForAdmin_quiet _ _)

theorem countRetired_quiet (s : State) (k : Slot) : Quiet s (s.countRetired k) := modRegion_quiet s k _

theorem afterRetired_quiet (s : State) (k : Slot) : Quiet s (s.afterRetired k) := by
  unfold State.afterRetired
  simp only
  split
  · exact (countRetired_quiet s k).trans (retireRegion_quiet _ k)
  · exact countRetired_quiet s k

theorem retireFrame_quiet (s : State) (f : Nat) : Quiet s (s.retireFrame f) := by
  unfold State.retireFrame
  simp only
  split
  · exact (setFrame_quiet s f _).trans (afterRetired_quiet _ _)
  · exact setFrame_quiet s f _

theorem queueScrub_quiet (s : State) (f : Nat) : Quiet s (s.queueScrub f) :=
  ((setFrame_quiet s f _).trans (modPool_quiet _ _)).trans (settleScrub_quiet _)

theorem dispose_quiet (s : State) (f : Nat) : Quiet s (s.dispose f) := by
  unfold State.dispose
  split
  · exact retireFrame_quiet s f
  · exact queueScrub_quiet s f

theorem settleFrame_quiet (s : State) (f : Nat) : Quiet s (s.settleFrame f) := by
  unfold State.settleFrame
  simp only
  split
  · split
    · split
      · exact dispose_quiet s f
      · exact setFrame_quiet s f _
    · exact .refl s
  · exact .refl s

theorem take_quiet (s : State) (p : Port) (count : Nat) : Quiet s (s.take p count) :=
  (modPool_quiet s _).trans (Quiet.foldl _ (fun t f => setFrame_quiet t f _) _ _)

theorem hold_quiet (s : State) (f : Nat) : Quiet s (s.hold f) := setFrame_quiet s f _

theorem unhold_quiet (s : State) (f : Nat) : Quiet s (s.unhold f) :=
  (setFrame_quiet s f _).trans (settleFrame_quiet _ f)

theorem pin_quiet (s : State) (f : Nat) : Quiet s (s.pin f) := setFrame_quiet s f _

theorem unpin_quiet (s : State) (f : Nat) : Quiet s (s.unpin f) :=
  (setFrame_quiet s f _).trans (settleFrame_quiet _ f)

theorem markDraining_quiet (s : State) (k : Slot) (cause : DrainCause) :
    Quiet s (s.markDraining k cause) :=
  (modRegion_quiet s k _).trans (raiseForAdmin_quiet _ _)

theorem retireUnheldFrames_quiet (s : State) (k : Slot) : Quiet s (s.retireUnheldFrames k) :=
  ((modPool_quiet s _).trans (modRegion_quiet _ k _)).trans (settleScrub_quiet _)

theorem startDrain_quiet (s : State) (k : Slot) (cause : DrainCause) : Quiet s (s.startDrain k cause) := by
  have h := (markDraining_quiet s k cause).trans (retireUnheldFrames_quiet _ k)
  unfold State.startDrain
  simp only
  split
  · exact h.trans (retireRegion_quiet _ k)
  · exact h

theorem compareThreshold_quiet (s : State) (k : Slot) : Quiet s (s.compareThreshold k) := by
  unfold State.compareThreshold
  split
  · exact startDrain_quiet s k _
  · exact .refl s

theorem countUncorrectable_quiet (s : State) (k : Slot) : Quiet s (s.countUncorrectable k) := by
  unfold State.countUncorrectable
  split
  · exact (modRegion_quiet s k _).trans (compareThreshold_quiet _ k)
  · exact .refl s

theorem poison_quiet (s : State) (f : Nat) : Quiet s (s.poison f) := by
  unfold State.poison
  split
  · exact .refl s
  · exact (setFrame_quiet s f _).trans (raiseForAdmin_quiet _ _)

theorem accountRead_quiet (s : State) (f : Nat) (c : ReadClass) : Quiet s (s.accountRead f c) := by
  unfold State.accountRead
  split
  · exact .refl s
  · split
    · exact modRegion_quiet s _ _
    · exact .refl s
  · split
    · exact (poison_quiet s f).trans (countUncorrectable_quiet _ _)
    · exact poison_quiet s f

/-! ### Offers and the release of pages -/

theorem modShare_settles (s : State) (f : ShareUnit → ShareUnit) : Settles s (s.modShare f) :=
  ⟨⟨rfl, rfl, rfl, rfl, rfl, rfl, rfl, rfl, rfl⟩, rfl, fun _ => .refl _⟩

theorem setSlot_settles (s : State) (p : Port) (g : Nat) (m : Option Mapping) :
    Settles s (s.setSlot p g m) :=
  ⟨⟨rfl, rfl, rfl, rfl, rfl, rfl, rfl, rfl, rfl⟩, rfl, fun q => by constructor <;> simp⟩

theorem removeOffer_settles (s : State) (n : Byte) : Settles s (s.removeOffer n) :=
  modShare_settles s _

theorem withdrawForPage_settles (s : State) (p : Port) (g : Nat) : Settles s (s.withdrawForPage p g) :=
  (modShare_settles s _).trans (raiseOfferNotices_quiet _ _ _).settles

theorem removeOffersOf_settles (s : State) (p : Port) : Settles s (s.removeOffersOf p) :=
  (modShare_settles s _).trans (raiseOfferNotices_quiet _ _ _).settles

theorem createOffer_settles (s : State) (o : Offer) : Settles s (s.createOffer o) :=
  (modShare_settles s _).trans (raiseNotice_quiet _ _ _).settles

theorem releasePage_settles (s : State) (p : Port) (g : Nat) : Settles s (s.releasePage p g) := by
  unfold State.releasePage
  split
  · exact .refl s
  · exact ((withdrawForPage_settles s p g).trans (setSlot_settles _ p g none)).trans
      (unhold_quiet _ _).settles

theorem releasePages_settles (s : State) (p : Port) (gs : List Nat) : Settles s (s.releasePages p gs) :=
  Settles.foldl _ (fun t g => releasePage_settles t p g) gs s

theorem releaseAll_settles (s : State) (p : Port) : Settles s (s.releaseAll p) :=
  releasePages_settles s p _

theorem mapFrames_settles (s : State) (p : Port) (g : Nat) (fs : List Nat) :
    Settles s (s.mapFrames p g fs) := by
  induction fs generalizing s g with
  | nil => exact .refl s
  | cons f fs ih => exact (setSlot_settles s p g _).trans (ih _ _)

theorem mapAccepted_settles (s : State) (p : Port) (g : Nat) (o : Offer) :
    Settles s (s.mapAccepted p g o) :=
  (setSlot_settles s p g _).trans (hold_quiet _ _).settles

end Sys2Proof.Machine
end

