-- ==== Sys2Proof/Laws/Requests.lean ====
section
/-! SUPPORT. Request Units: what looking for an entry to present can do, what an acceptance leaves, and what becomes of a
request frame in each case of R78 and R165. -/

namespace Sys2Proof.Machine

set_option Elab.async false

/-! ### Presenting (R99, R105, R106) -/

/-- A class candidate stands in the list, is of the class, PENDING and a data entry (R99). -/
theorem candidate_spec {c : ReqClass} {older es o y : List Entry} {e : Entry}
    (h : candidate c older es = some (o, e, y)) :
    older ++ es = o ++ e :: y ∧ e.cls = c ∧ e.state = .waiting ∧ e.isData = true := by
  induction es generalizing older with
  | nil => simp [candidate] at h
  | cons a es ih =>
    unfold candidate at h
    split at h
    · rename_i ha
      simp only [Option.some.injEq, Prod.mk.injEq] at h
      obtain ⟨rfl, rfl, rfl⟩ := h
      exact ⟨rfl, ha⟩
    · obtain ⟨h1, h2⟩ := ih h
      exact ⟨by simpa using h1, h2⟩

/-- The entry that R105 chooses is a PENDING data entry of the port. -/
theorem chooseEntry_spec {mode : OrderMode} {es o y : List Entry} {e : Entry}
    (h : chooseEntry mode es = some (o, e, y)) :
    es = o ++ e :: y ∧ e.state = .waiting ∧ e.isData = true ∧ eligible mode o e = true := by
  have key : ∀ c, eligibleCandidate mode c es = some (o, e, y) →
      es = o ++ e :: y ∧ e.state = .waiting ∧ e.isData = true ∧ eligible mode o e = true := by
    intro c hc
    unfold eligibleCandidate at hc
    split at hc
    · rename_i o' e' y' hcand
      split at hc
      · rename_i hel
        simp only [Option.some.injEq, Prod.mk.injEq] at hc
        obtain ⟨rfl, rfl, rfl⟩ := hc
        obtain ⟨h1, _, h3, h4⟩ := candidate_spec hcand
        exact ⟨by simpa using h1, h3, h4, hel⟩
      · simp at hc
    · simp at hc
  unfold chooseEntry at h
  split at h
  · rename_i x hx
    simp only [Option.some.injEq] at h
    subst h
    exact key _ hx
  · exact key _ h

/-- Looking for an entry to present changes nothing, or makes one PENDING data entry PRESENTED where none was. -/
theorem present_spec (r : RequestUnit) (st : SessionState) :
    r.present st = r ∨ ∃ o e y, r.entries = o ++ e :: y ∧ e.state = .waiting ∧ e.isData = true ∧
      eligible r.mode o e = true ∧ r.presentedEntry = none ∧ st ≠ .teardown ∧
      r.present st = { r with entries := o ++ { e with state := .presented } :: y } := by
  unfold RequestUnit.present
  split
  · exact .inl rfl
  · rename_i hn
    split
    · rename_i o e y hc
      obtain ⟨h1, h2, h3, h4⟩ := chooseEntry_spec hc
      refine .inr ⟨o, e, y, h1, h2, h3, h4, ?_, fun h => hn (.inl h), rfl⟩
      cases hp : r.presentedEntry with
      | none => rfl
      | some a => exact absurd (.inr (by simp [hp])) hn
    · exact .inl rfl

/-- Looking for an entry to present keeps every other value of the Request Unit, and the number of entries. -/
theorem present_keeps (r : RequestUnit) (st : SessionState) :
    (r.present st).nextExpedited = r.nextExpedited ∧ (r.present st).nextOrdinary = r.nextOrdinary ∧
    (r.present st).reservedLines = r.reservedLines ∧ (r.present st).mode = r.mode ∧
    (r.present st).burstLimit = r.burstLimit ∧
    (r.present st).entries.length = r.entries.length := by
  rcases present_spec r st with h | ⟨o, e, y, h1, _, _, _, _, _, h⟩
  · simp [h]
  · simp [h, h1]

/-- A youngest entry that is not PENDING stays the youngest as it is. -/
theorem present_youngest {r : RequestUnit} {st : SessionState} {es : List Entry} {e : Entry}
    (h : r.entries = es ++ [e]) (he : e.state ≠ .waiting) :
    (r.present st).entries.getLast? = some e := by
  rcases present_spec r st with h' | ⟨o, a, y, h1, h2, _, _, _, _, h'⟩
  · simp [h', h]
  · rw [h']
    rw [h] at h1
    rcases List.eq_nil_or_concat y with rfl | ⟨y', b, rfl⟩
    · have := congrArg List.getLast? h1
      simp at this
      subst this
      exact absurd h2 he
    · have hlast := congrArg List.getLast? h1
      have e1 : (o ++ a :: y'.concat b).getLast? = some b := by
        rw [List.concat_eq_append, ← List.cons_append, ← List.append_assoc]
        exact List.getLast?_concat
      rw [e1, List.getLast?_concat] at hlast
      have e2 : ∀ c : Entry, (o ++ c :: y'.concat b).getLast? = some b := by
        intro c
        rw [List.concat_eq_append, ← List.cons_append, ← List.append_assoc]
        exact List.getLast?_concat
      simp only [e2, hlast]

/-- Looking for an entry to present touches one port's Request Unit alone. -/
@[simp] theorem requests_present (s : State) (p : Port) :
    ((s.present p).port p).requests = (s.port p).requests.present (s.port p).session.state := by
  simp [State.present]

@[simp] theorem port_present_ne (s : State) {p q : Port} (h : q ≠ p) :
    (s.present p).port q = s.port q := by
  simp [State.present, h]

@[simp] theorem link_present (s : State) (p q : Port) :
    ((s.present p).port q).link = (s.port q).link := by simp [State.present]
@[simp] theorem session_present (s : State) (p q : Port) :
    ((s.present p).port q).session = (s.port q).session := by simp [State.present]
@[simp] theorem transmit_present (s : State) (p q : Port) :
    ((s.present p).port q).transmit = (s.port q).transmit := by simp [State.present]
@[simp] theorem aperture_present (s : State) (p q : Port) :
    ((s.present p).port q).aperture = (s.port q).aperture := by simp [State.present]
@[simp] theorem sent_present (s : State) (p q : Port) :
    ((s.present p).port q).sent = (s.port q).sent := by simp [State.present]
@[simp] theorem pool_present (s : State) (p : Port) : (s.present p).pool = s.pool := rfl
@[simp] theorem share_present (s : State) (p : Port) : (s.present p).share = s.share := rfl
@[simp] theorem role_present (s : State) (p : Port) : (s.present p).role = s.role := rfl

theorem present_rest (s : State) (p : Port) : SameRest s (s.present p) :=
  ⟨rfl, rfl, rfl, rfl, rfl, rfl, rfl, rfl, rfl⟩

/-! ### Acceptance (R87, R90) -/

@[simp] theorem link_enqueue (s : State) (p q : Port) (e : Entry) :
    ((s.enqueue p e).port q).link = (s.port q).link := by simp [State.enqueue]
@[simp] theorem session_enqueue (s : State) (p q : Port) (e : Entry) :
    ((s.enqueue p e).port q).session = (s.port q).session := by simp [State.enqueue]
@[simp] theorem transmit_enqueue (s : State) (p q : Port) (e : Entry) :
    ((s.enqueue p e).port q).transmit = (s.port q).transmit := by simp [State.enqueue]
@[simp] theorem aperture_enqueue (s : State) (p q : Port) (e : Entry) :
    ((s.enqueue p e).port q).aperture = (s.port q).aperture := by simp [State.enqueue]
@[simp] theorem sent_enqueue (s : State) (p q : Port) (e : Entry) :
    ((s.enqueue p e).port q).sent = (s.port q).sent := by simp [State.enqueue]
@[simp] theorem pool_enqueue (s : State) (p : Port) (e : Entry) : (s.enqueue p e).pool = s.pool := rfl
@[simp] theorem share_enqueue (s : State) (p : Port) (e : Entry) : (s.enqueue p e).share = s.share := rfl
@[simp] theorem role_enqueue (s : State) (p : Port) (e : Entry) : (s.enqueue p e).role = s.role := rfl
@[simp] theorem port_enqueue_ne (s : State) {p q : Port} (h : q ≠ p) (e : Entry) :
    (s.enqueue p e).port q = s.port q := by simp [State.enqueue, h]

theorem enqueue_rest (s : State) (p : Port) (e : Entry) : SameRest s (s.enqueue p e) :=
  ⟨rfl, rfl, rfl, rfl, rfl, rfl, rfl, rfl, rfl⟩

/-- The Request Unit with the new entry at its tail and the number used up, before it looks for an entry to present. -/
def RequestUnit.accepted (r : RequestUnit) (e : Entry) : RequestUnit :=
  { r.advance e.cls with entries := r.entries ++ [e] }

@[simp] theorem requests_enqueue (s : State) (p : Port) (e : Entry) :
    ((s.enqueue p e).port p).requests =
      ((s.port p).requests.accepted e).present (s.port p).session.state := by
  simp [State.enqueue, RequestUnit.accepted]

/-- An entry that is DONE at acceptance is the youngest entry after it. -/
theorem youngest_enqueue (s : State) (p : Port) {e : Entry} (h : e.state ≠ .waiting) :
    ((s.enqueue p e).port p).requests.entries.getLast? = some e := by
  rw [requests_enqueue]
  exact present_youngest (es := (s.port p).requests.entries) rfl h

/-! ### What becomes of a request frame (R78, R164 to R167) -/

/-- A frame in sequence on a link that is UP is offered to the Request Unit (R165, R166). -/
theorem receive_inSequence {s : State} {p : Port} {seq : Byte} (offer : State → Option State)
    (hup : (s.port p).link.state = .up) (hseq : seq = (s.port p).link.expected) :
    s.receiveSequenced p seq offer =
      match offer s with
      | some t => t.modLink p fun l => l.taken seq
      | none => s.modLink p LinkUnit.outOfSequence := by
  subst hseq
  simp only [State.receiveSequenced, hup, State.sequencedInUp, seqClass, if_true]
  rfl

/-- A duplicate changes the pending LINK_ACK alone (R167). -/
theorem receive_duplicate {s : State} {p : Port} {seq : Byte} (offer : State → Option State)
    (hup : (s.port p).link.state = .up) (hseq : seqClass (s.port p).link.expected seq = .duplicate) :
    s.receiveSequenced p seq offer = s.modLink p LinkUnit.duplicate := by
  simp [State.receiveSequenced, hup, State.sequencedInUp, hseq]

/-- A frame out of sequence changes the pending LINK_NAK and the NAK flag alone (R167). -/
theorem receive_outOfSequence {s : State} {p : Port} {seq : Byte} (offer : State → Option State)
    (hup : (s.port p).link.state = .up)
    (hseq : seqClass (s.port p).link.expected seq = .outOfSequence) :
    s.receiveSequenced p seq offer = s.modLink p LinkUnit.outOfSequence := by
  simp [State.receiveSequenced, hup, State.sequencedInUp, hseq]

/-- In ANSWERING a sequenced frame numbered 0 brings the link UP and is a frame in sequence there (R160). -/
theorem receive_firstFrame {s : State} {p : Port} (offer : State → Option State)
    (h : (s.port p).link.state = .answering) :
    s.receiveSequenced p 0 offer = (s.modLink p LinkUnit.enterUp).receiveSequenced p 0 offer := by
  rw [receive_inSequence (s := s.modLink p LinkUnit.enterUp) offer (by simp [LinkUnit.enterUp])
    (by simp [LinkUnit.enterUp])]
  simp only [State.receiveSequenced, h, State.sequencedIntoUp, if_true]
  rfl

/-- In ANSWERING a sequenced frame with any other number brings the link UP and is out of sequence (R160). -/
theorem receive_firstGap {s : State} {p : Port} {seq : Byte} (offer : State → Option State)
    (h : (s.port p).link.state = .answering) (hseq : seq ≠ 0) :
    s.receiveSequenced p seq offer =
      (s.modLink p LinkUnit.enterUp).modLink p LinkUnit.outOfSequence := by
  simp only [State.receiveSequenced, h, State.sequencedIntoUp, if_neg hseq]

/-- In ALIGNING and OFFLINE a sequenced frame changes nothing (R158, R159). -/
theorem receive_notListening {s : State} {p : Port} (seq : Byte) (offer : State → Option State)
    (h : (s.port p).link.state = .offline ∨ (s.port p).link.state = .aligning) :
    s.receiveSequenced p seq offer = s := by
  rcases h with h | h <;> simp [State.receiveSequenced, h]

/-- An accepted request: its acceptance, and its number acknowledged (R78, R166). -/
theorem requestArrives_accepted {s : State} {p : Port} {k : RequestKind} {f : RequestFrame}
    (h : s.Accepts p k f) (accept : State → State) :
    s.requestArrives p k f accept = (accept s).modLink p fun l => l.taken f.seq := by
  rw [State.requestArrives, receive_inSequence _ h.up h.inSequence]
  simp [State.offerRequest, h.passes]

/-- A refused request whose refusal has room: the refusal joins the queue, and the frame is acknowledged (R78, R147). -/
theorem requestArrives_refused {s : State} {p : Port} {k : RequestKind} {f : RequestFrame}
    {reason : RefusalReason} (hup : (s.port p).link.state = .up)
    (hseq : f.seq = (s.port p).link.expected) (hr : s.refusalOf p k f = some reason)
    (hroom : (s.port p).transmit.refusals.length < 8) (accept : State → State) :
    s.requestArrives p k f accept =
      (s.modTransmit p fun t =>
        { t with
          refusals :=
            t.refusals ++
              [{ reason := reason, seq := f.seq, mark := f.mark, cls := frameClass f }] }).modLink p
        fun l => l.taken f.seq := by
  rw [State.requestArrives, receive_inSequence _ hup hseq]
  simp [State.offerRequest, hr, State.refuse, Config.refusalPlaces, hroom]

/-- A request that needs a refusal without room is not taken (R78, R86). -/
theorem requestArrives_notTaken {s : State} {p : Port} {k : RequestKind} {f : RequestFrame}
    {reason : RefusalReason} (hup : (s.port p).link.state = .up)
    (hseq : f.seq = (s.port p).link.expected) (hr : s.refusalOf p k f = some reason)
    (hroom : ¬(s.port p).transmit.refusals.length < 8) (accept : State → State) :
    s.requestArrives p k f accept = s.modLink p LinkUnit.outOfSequence := by
  rw [State.requestArrives, receive_inSequence _ hup hseq]
  simp [State.offerRequest, hr, State.refuse, Config.refusalPlaces, hroom]

/-- An accepted request answers a next state. -/
theorem State.Accepts.answers {s : State} {p : Port} {k : RequestKind} {f : RequestFrame}
    (h : s.Accepts p k f) (accept : State → State) :
    whenRunning s (s.requestArrives p k f accept) =
      .next ((accept s).modLink p fun l => l.taken f.seq) := by
  rw [whenRunning_high h.running, requestArrives_accepted h]

/-- What holds of a state, and is kept by each thing that can happen to a request frame, holds after its arrival. -/
theorem requestArrives_induct {s : State} {p : Port} {k : RequestKind} {f : RequestFrame}
    {accept : State → State} {P : State → Prop} (h0 : P s)
    (hUp : (s.port p).link.state = .answering → P (s.modLink p LinkUnit.enterUp))
    (hTaken : ∀ u, P u → P (u.modLink p fun l => l.taken f.seq))
    (hDuplicate : ∀ u, P u → P (u.modLink p LinkUnit.duplicate))
    (hOut : ∀ u, P u → P (u.modLink p LinkUnit.outOfSequence))
    (hRefuse : ∀ u r, P u → (u.port p).transmit.refusals.length < 8 →
      P (u.modTransmit p fun t => { t with refusals := t.refusals ++ [r] }))
    (hAccept : ∀ u, P u → u.refusalOf p k f = none → P (accept u)) :
    P (s.requestArrives p k f accept) := by
  have offered : ∀ u : State, P u →
      P (u.offerInSequence p f.seq fun t => t.offerRequest p k f accept) := by
    intro u hu
    unfold State.offerInSequence
    cases hr : u.refusalOf p k f with
    | none =>
      simp only [State.offerRequest, hr]
      exact hTaken _ (hAccept u hu hr)
    | some reason =>
      by_cases hroom : (u.port p).transmit.refusals.length < 8
      · simp only [State.offerRequest, hr, State.refuse, Config.refusalPlaces, hroom, if_true]
        exact hTaken _ (hRefuse u _ hu hroom)
      · simp only [State.offerRequest, hr, State.refuse, Config.refusalPlaces, hroom, if_false]
        exact hOut u hu
  unfold State.requestArrives State.receiveSequenced
  split
  · exact h0
  · exact h0
  · rename_i h
    unfold State.sequencedIntoUp
    split
    · exact offered _ (hUp h)
    · exact hOut _ (hUp h)
  · unfold State.sequencedInUp
    split
    · exact offered _ h0
    · exact hDuplicate _ h0
    · exact hOut _ h0

end Sys2Proof.Machine
end

