-- ==== Sys2Proof/Laws/Accept.lean ====
section
/-! SUPPORT. What the acceptance of a request leaves: the frame of an entry joining its queue, and the answer of a request
that acts at acceptance. -/

namespace Sys2Proof.Machine

/-- An entry joining its queue, and its frame's acknowledgement, change nothing but the queue and the link. -/
theorem enqueue_onlyQueued (u : State) (p : Port) (e : Entry) (g : LinkUnit → LinkUnit) :
    OnlyQueued p u ((u.enqueue p e).modLink p g) := by
  have k := present_keeps ((u.port p).requests.accepted e) (u.port p).session.state
  refine ⟨fun q hq => ?_, ?_, ?_, ?_, ?_, ?_, ?_, ?_, rfl, rfl, rfl, rfl, rfl, rfl, rfl, rfl, rfl, rfl, rfl,
    rfl⟩
  · rw [port_modLink_ne _ hq, port_enqueue_ne _ hq]
  · simp
  · simp
  · simp
  · simp
  · rw [requests_modLink, requests_enqueue, k.2.2.1]
    cases h : e.cls <;> simp [RequestUnit.accepted, RequestUnit.advance, h]
  · rw [requests_modLink, requests_enqueue, k.2.2.2.1]
    cases h : e.cls <;> simp [RequestUnit.accepted, RequestUnit.advance, h]
  · rw [requests_modLink, requests_enqueue, k.2.2.2.2.1]
    cases h : e.cls <;> simp [RequestUnit.accepted, RequestUnit.advance, h]

/-- A request that acts at acceptance leaves what its action left, and its entry (R93). -/
theorem acceptDone_onlyQueued (s : State) (p : Port) (k : RequestKind) (f : RequestFrame)
    (act : State → Answer) (g : LinkUnit → LinkUnit) :
    OnlyQueued p (act s).state ((s.acceptDone p k f act).modLink p g) :=
  enqueue_onlyQueued _ p _ g

/-- The entry of a request that acts at acceptance (R87 to R89, R93). -/
theorem acceptDone_answers {s : State} {p : Port} {k : RequestKind} {f : RequestFrame}
    {act : State → Answer} (g : LinkUnit → LinkUnit)
    (hn : ((act s).state.port p).requests.nextNumber (frameClass f) =
      (s.port p).requests.nextNumber (frameClass f)) :
    s.Answers ((s.acceptDone p k f act).modLink p g) p k f (act s).result (act s).payload := by
  unfold State.Answers State.acceptDone
  rw [requests_modLink, youngest_enqueue _ _ (by simp), ← hn]
  rfl

/-- A request that acts at acceptance and keeps its port's counters: its next state, its entry, and that nothing else
changes but what its action changed. -/
theorem State.Accepts.acceptDone {s : State} {p : Port} {k : RequestKind} {f : RequestFrame}
    (h : s.Accepts p k f) {act : State → Answer} {u : State} {r : ResultCode} {pay : Option ReplyPayload}
    (ha : act s = { state := u, result := r, payload := pay })
    (hu : (u.port p).requests.nextNumber (frameClass f) =
      (s.port p).requests.nextNumber (frameClass f)) :
    ∃ t, whenRunning s (s.requestArrives p k f fun v => v.acceptDone p k f act) = .next t ∧
      s.Answers t p k f r pay ∧ OnlyQueued p u t := by
  refine ⟨_, h.answers _, ?_, ?_⟩
  · have := acceptDone_answers (k := k) (act := act) (f := f) (fun l => l.taken f.seq)
      (s := s) (p := p) (by rw [ha]; exact hu)
    rw [ha] at this
    exact this
  · have := acceptDone_onlyQueued s p k f act (fun l => l.taken f.seq)
    rw [ha] at this
    exact this

/-- A settling action keeps the acceptance counters. -/
theorem Settles.nextNumber {s t : State} (h : Settles s t) (p : Port) (c : ReqClass) :
    (t.port p).requests.nextNumber c = (s.port p).requests.nextNumber c := by
  rw [(h.port p).requests]

end Sys2Proof.Machine
end

