-- ==== Sys2Proof/Laws/Sparse.lean ====
section
/-! SUPPORT. Sparse data: what a lookup gives after an update, and that updates keep the order of the numbers. -/

namespace Sys2Proof.Machine

variable {α : Type}

/-- Every listed number is above `k`. -/
def Sparse.above (k : Nat) (l : Sparse α) : Prop := ∀ e ∈ l, k < e.1

theorem Sparse.rising_cons {e : Nat × α} {l : Sparse α} :
    Sparse.rising (e :: l) = true ↔ Sparse.above e.1 l ∧ Sparse.rising l = true := by
  induction l generalizing e with
  | nil => simp [Sparse.rising, Sparse.above]
  | cons d l ih =>
    obtain ⟨j, x⟩ := e
    obtain ⟨k, y⟩ := d
    simp only [Sparse.rising, Bool.and_eq_true, decide_eq_true_eq]
    rw [ih]
    constructor
    · rintro ⟨hjk, habove, hr⟩
      refine ⟨?_, habove, hr⟩
      intro e he
      rcases List.mem_cons.1 he with rfl | he
      · exact hjk
      · exact Nat.lt_trans hjk (habove e he)
    · rintro ⟨habove, h2, hr⟩
      exact ⟨habove (k, y) (by simp), h2, hr⟩

theorem Sparse.get_above {l : Sparse α} {k j : Nat} (h : Sparse.above k l) (hj : j ≤ k) :
    Sparse.get l j = none := by
  induction l with
  | nil => rfl
  | cons e l ih =>
    obtain ⟨i, x⟩ := e
    have hi : k < i := h (i, x) (by simp)
    have : i ≠ j := by omega
    simp only [Sparse.get, this, if_false]
    exact ih fun e he => h e (by simp [he])

theorem Sparse.get_entry_append (k j : Nat) (v : Option α) (l : Sparse α) :
    Sparse.get (Sparse.entry k v ++ l) j =
      if k = j then v.or (Sparse.get l j) else Sparse.get l j := by
  cases v <;> simp [Sparse.entry, Sparse.get]

theorem Sparse.above_set {l : Sparse α} {i k : Nat} {v : Option α} (h : Sparse.above i l)
    (hk : i < k) : Sparse.above i (Sparse.set l k v) := by
  induction l with
  | nil => cases v <;> simp [Sparse.set, Sparse.entry, Sparse.above, hk]
  | cons e l ih =>
    obtain ⟨j, x⟩ := e
    have hj : i < j := h (j, x) (by simp)
    have hl : Sparse.above i l := fun e he => h e (by simp [he])
    unfold Sparse.set
    split
    · intro e he
      rcases List.mem_append.1 he with he | he
      · cases v <;> simp_all [Sparse.entry]
      · exact h e he
    · split
      · intro e he
        rcases List.mem_append.1 he with he | he
        · cases v <;> simp_all [Sparse.entry]
        · exact hl e he
      · intro e he
        rcases List.mem_cons.1 he with rfl | he
        · exact hj
        · exact ih hl e he

/-- An update keeps the numbers rising. -/
theorem Sparse.rising_set {l : Sparse α} (k : Nat) (v : Option α) (h : Sparse.rising l = true) :
    Sparse.rising (Sparse.set l k v) = true := by
  induction l with
  | nil => cases v <;> rfl
  | cons e l ih =>
    obtain ⟨j, x⟩ := e
    obtain ⟨habove, hr⟩ := Sparse.rising_cons.1 h
    unfold Sparse.set
    split
    · rename_i hk
      cases v with
      | none => simpa [Sparse.entry] using h
      | some y =>
        refine Sparse.rising_cons.2 ⟨?_, h⟩
        intro e he
        rcases List.mem_cons.1 he with rfl | he
        · exact hk
        · exact Nat.lt_trans hk (habove e he)
    · split
      · rename_i hk
        cases v with
        | none => simpa [Sparse.entry] using hr
        | some y => exact Sparse.rising_cons.2 ⟨by subst hk; exact habove, hr⟩
      · rename_i h1 h2
        exact Sparse.rising_cons.2 ⟨Sparse.above_set habove (by simp only; omega), ih hr⟩

/-- What a lookup gives after an update. -/
theorem Sparse.get_set {l : Sparse α} (h : Sparse.rising l = true) (k j : Nat) (v : Option α) :
    Sparse.get (Sparse.set l k v) j = if j = k then v else Sparse.get l j := by
  induction l with
  | nil =>
    by_cases hj : j = k
    · cases v <;> simp [Sparse.set, Sparse.entry, Sparse.get, hj]
    · have hk : ¬k = j := fun e => hj e.symm
      cases v <;> simp [Sparse.set, Sparse.entry, Sparse.get, hj, hk]
  | cons e l ih =>
    obtain ⟨i, x⟩ := e
    obtain ⟨habove, hr⟩ := Sparse.rising_cons.1 h
    unfold Sparse.set
    split
    · rename_i hk
      rw [Sparse.get_entry_append]
      by_cases hj : k = j
      · subst hj
        have : Sparse.get ((i, x) :: l) k = none := by
          have hik : i ≠ k := by omega
          simp only [Sparse.get, hik, if_false]
          exact Sparse.get_above habove (by simp only; omega)
        simp [this]
      · simp [hj, eq_comm]
    · split
      · rename_i hk
        subst hk
        rw [Sparse.get_entry_append]
        by_cases hj : k = j
        · subst hj
          simp [Sparse.get_above habove]
        · simp [hj, Sparse.get, eq_comm]
      · rename_i h1 h2
        by_cases hi : i = j
        · subst hi
          simp [Sparse.get, show ¬i = k from fun e => h2 e.symm]
        · simp [Sparse.get, hi, ih hr]

/-- The number updated reads as the value stored. -/
theorem Sparse.get_set_same {l : Sparse α} (h : Sparse.rising l = true) (k : Nat) (v : Option α) :
    Sparse.get (Sparse.set l k v) k = v := by
  simp [Sparse.get_set h]

/-- Another number reads as before. -/
theorem Sparse.get_set_ne {l : Sparse α} (h : Sparse.rising l = true) {k j : Nat} (hj : j ≠ k)
    (v : Option α) : Sparse.get (Sparse.set l k v) j = Sparse.get l j := by
  simp [Sparse.get_set h, hj]

/-- A stored value is read back, whatever the order of the list. -/
theorem Sparse.get_set_some (l : Sparse α) (k : Nat) (x : α) :
    Sparse.get (Sparse.set l k (some x)) k = some x := by
  induction l with
  | nil => simp [Sparse.set, Sparse.entry, Sparse.get]
  | cons e l ih =>
    obtain ⟨j, y⟩ := e
    unfold Sparse.set
    split
    · simp [Sparse.entry, Sparse.get]
    · split
      · simp [Sparse.entry, Sparse.get]
      · rename_i h1 h2
        simp [Sparse.get, show ¬j = k from fun h => h2 h.symm, ih]

/-- Another number reads as before, whatever the order of the list. -/
theorem Sparse.get_set_other (l : Sparse α) {k j : Nat} (hj : j ≠ k) (v : Option α) :
    Sparse.get (Sparse.set l k v) j = Sparse.get l j := by
  have hk : ¬k = j := fun h => hj h.symm
  induction l with
  | nil => cases v <;> simp [Sparse.set, Sparse.entry, Sparse.get, hk]
  | cons e l ih =>
    obtain ⟨i, y⟩ := e
    unfold Sparse.set
    split
    · rw [Sparse.get_entry_append, if_neg hk]
    · split
      · rename_i h1 h2
        subst h2
        rw [Sparse.get_entry_append, if_neg hk]
        simp [Sparse.get, hk]
      · by_cases hi : i = j <;> simp [Sparse.get, hi, ih]

/-- A number that is not listed is listed by a store, and nothing else is. -/
theorem Sparse.length_set_some {l : Sparse α} {k : Nat} (h : Sparse.get l k = none) (x : α) :
    (Sparse.set l k (some x)).length = l.length + 1 := by
  induction l with
  | nil => rfl
  | cons e l ih =>
    obtain ⟨j, y⟩ := e
    simp only [Sparse.get] at h
    split at h
    · simp at h
    · rename_i hj
      unfold Sparse.set
      split
      · simp [Sparse.entry]
      · split
        · rename_i h2; exact absurd h2.symm hj
        · simp [ih h]

/-- An update lists at most one number more. -/
theorem Sparse.length_set_le (l : Sparse α) (k : Nat) (v : Option α) :
    (Sparse.set l k v).length ≤ l.length + 1 := by
  induction l with
  | nil => cases v <;> simp [Sparse.set, Sparse.entry]
  | cons e l ih =>
    obtain ⟨j, x⟩ := e
    unfold Sparse.set
    split
    · cases v <;> simp [Sparse.entry]
    · split
      · cases v
        · simp only [Sparse.entry, List.nil_append, List.length_cons]; omega
        · simp [Sparse.entry]
      · simpa using ih

/-- Taking a number out lists no number more. -/
theorem Sparse.length_set_none_le (l : Sparse α) (k : Nat) :
    (Sparse.set l k none).length ≤ l.length := by
  induction l with
  | nil => simp [Sparse.set, Sparse.entry]
  | cons e l ih =>
    obtain ⟨j, x⟩ := e
    unfold Sparse.set
    split
    · simp [Sparse.entry]
    · split
      · simp [Sparse.entry]
      · simpa using ih

/-- A value that is read is listed. -/
theorem Sparse.mem_of_get {l : Sparse α} {k : Nat} {x : α} (h : Sparse.get l k = some x) :
    (k, x) ∈ l := by
  induction l with
  | nil => simp [Sparse.get] at h
  | cons e l ih =>
    obtain ⟨j, y⟩ := e
    simp only [Sparse.get] at h
    split at h
    · simp_all
    · simp [ih h]

/-- In rising order a listed value is the one read. -/
theorem Sparse.get_of_mem {l : Sparse α} (hr : Sparse.rising l = true) {k : Nat} {x : α}
    (h : (k, x) ∈ l) : Sparse.get l k = some x := by
  induction l with
  | nil => simp at h
  | cons e l ih =>
    obtain ⟨j, y⟩ := e
    obtain ⟨habove, hr'⟩ := Sparse.rising_cons.1 hr
    rcases List.mem_cons.1 h with h | h
    · cases h; simp [Sparse.get]
    · have : j < k := habove (k, x) h
      simp [Sparse.get, show ¬j = k by omega, ih hr' h]

end Sys2Proof.Machine
end

