-- ==== Sys2Proof/Laws/Dram.lean ====
section
/-! SUPPORT. The DRAM: every memory operation keeps the canonical form and the fitted spans, and what a byte reads as
after a store. -/

namespace Sys2Proof.Machine

/-- The canonical form of the DRAM's two sparse parts. -/
def Dram.wf (d : Dram) : Bool :=
  Memory.wf d.bytes && Sparse.rising d.flaws

theorem Dram.wf_reset : Dram.reset.wf = true := by decide

theorem Dram.wf_setByte {d : Dram} (h : d.wf = true) (a : Nat) (b : Option Byte) :
    (d.setByte a b).wf = true := by
  simp only [Dram.wf, Memory.wf, Dram.setByte, Bool.and_eq_true] at h ⊢
  exact ⟨Sparse.rising_set a b h.1, h.2⟩

theorem Dram.wf_setFlaw {d : Dram} (h : d.wf = true) (line : Nat) (flaw : Option LineFlaw) :
    (d.setFlaw line flaw).wf = true := by
  simp only [Dram.wf, Memory.wf, Dram.setFlaw, Bool.and_eq_true] at h ⊢
  exact ⟨h.1, Sparse.rising_set line _ h.2⟩

theorem Dram.wf_setBytes {d : Dram} (h : d.wf = true) (a : Nat) (bs : List (Option Byte)) :
    (d.setBytes a bs).wf = true := by
  induction bs generalizing d a with
  | nil => exact h
  | cons b bs ih => exact ih (Dram.wf_setByte h a b) (a + 1)

theorem Dram.wf_writeLine {d : Dram} (h : d.wf = true) (line start : Nat) (data : List Byte)
    (report : LineReport) : (d.writeLine line start data report).wf = true := by
  unfold Dram.writeLine
  split
  · exact Dram.wf_setFlaw (Dram.wf_setBytes h _ _) _ _
  · exact h

theorem Dram.wf_writeLines {d : Dram} (h : d.wf = true) (start : Nat) (data : List Byte)
    (reports : List LineReport) (line count : Nat) :
    (d.writeLines start data reports line count).wf = true := by
  induction count generalizing d line reports with
  | zero => exact h
  | succ n ih => exact ih (Dram.wf_writeLine h _ _ _ _) _ _

theorem Dram.wf_zeroLine {d : Dram} (h : d.wf = true) (line : Nat) : (d.zeroLine line).wf = true := by
  unfold Dram.zeroLine
  split
  · exact Dram.wf_setFlaw (Dram.wf_setBytes h _ _) _ _
  · exact h

theorem Dram.wf_zeroLines {d : Dram} (h : d.wf = true) (line count : Nat) :
    (d.zeroLines line count).wf = true := by
  induction count generalizing d line with
  | zero => exact h
  | succ n ih => exact ih (Dram.wf_zeroLine h _) _

theorem Dram.wf_keepFound {d : Dram} (h : d.wf = true) (line : Nat) (found : LineReport) :
    (d.keepFound line found).wf = true := by
  unfold Dram.keepFound
  split
  · split
    · exact h
    · exact Dram.wf_setFlaw h _ _
    · split
      · exact h
      · exact Dram.wf_setFlaw h _ _
    · exact Dram.wf_setFlaw (Dram.wf_setBytes h _ _) _ _
  · exact h

theorem Dram.wf_keepLines {d : Dram} (h : d.wf = true) (line : Nat) (found : List LineReport) :
    (d.keepLines line found).wf = true := by
  induction found generalizing d line with
  | nil => exact h
  | cons r rs ih => exact ih (Dram.wf_keepFound h _ _) _

/-! ### What DRAM is fitted does not change -/

@[simp] theorem Dram.fitted_setByte (d : Dram) (a : Nat) (b : Option Byte) :
    (d.setByte a b).fitted = d.fitted := rfl

@[simp] theorem Dram.fitted_setFlaw (d : Dram) (line : Nat) (flaw : Option LineFlaw) :
    (d.setFlaw line flaw).fitted = d.fitted := rfl

@[simp] theorem Dram.fitted_setBytes (d : Dram) (a : Nat) (bs : List (Option Byte)) :
    (d.setBytes a bs).fitted = d.fitted := by
  induction bs generalizing d a with
  | nil => rfl
  | cons b bs ih => exact ih (d.setByte a b) (a + 1)

@[simp] theorem Dram.fitted_writeLine (d : Dram) (line start : Nat) (data : List Byte)
    (report : LineReport) : (d.writeLine line start data report).fitted = d.fitted := by
  unfold Dram.writeLine; split <;> simp

@[simp] theorem Dram.fitted_writeLines (d : Dram) (start : Nat) (data : List Byte)
    (reports : List LineReport) (line count : Nat) :
    (d.writeLines start data reports line count).fitted = d.fitted := by
  induction count generalizing d line reports with
  | zero => rfl
  | succ n ih => rw [Dram.writeLines, ih, Dram.fitted_writeLine]

@[simp] theorem Dram.fitted_zeroLine (d : Dram) (line : Nat) : (d.zeroLine line).fitted = d.fitted := by
  unfold Dram.zeroLine; split <;> simp

@[simp] theorem Dram.fitted_zeroLines (d : Dram) (line count : Nat) :
    (d.zeroLines line count).fitted = d.fitted := by
  induction count generalizing d line with
  | zero => rfl
  | succ n ih => rw [Dram.zeroLines, ih, Dram.fitted_zeroLine]

@[simp] theorem Dram.fitted_keepFound (d : Dram) (line : Nat) (found : LineReport) :
    (d.keepFound line found).fitted = d.fitted := by
  unfold Dram.keepFound
  split
  · split
    · rfl
    · rfl
    · split <;> rfl
    · simp
  · rfl

@[simp] theorem Dram.fitted_keepLines (d : Dram) (line : Nat) (found : List LineReport) :
    (d.keepLines line found).fitted = d.fitted := by
  induction found generalizing d line with
  | nil => rfl
  | cons r rs ih => rw [Dram.keepLines, ih, Dram.fitted_keepFound]

/-! ### Bytes after a store -/

/-- A run of stores: the addresses of the run take its values, every other address keeps its byte. -/
theorem Dram.get_setBytes {d : Dram} (h : Memory.wf d.bytes = true) (a : Nat) (bs : List (Option Byte))
    (x : Nat) :
    Sparse.get (d.setBytes a bs).bytes x =
      if a ≤ x ∧ x < a + bs.length then (bs[x - a]?).join else Sparse.get d.bytes x := by
  induction bs generalizing d a with
  | nil => simp [Dram.setBytes]
  | cons b bs ih =>
    have h' : Memory.wf (d.setByte a b).bytes = true := Sparse.rising_set a b h
    rw [Dram.setBytes, ih h']
    have hget : Sparse.get (d.setByte a b).bytes x = if x = a then b else Sparse.get d.bytes x :=
      Sparse.get_set h a x b
    rw [hget]
    by_cases hx : x = a
    · subst hx
      simp
    · by_cases hin : a + 1 ≤ x ∧ x < a + 1 + bs.length
      · have e : x - a = (x - (a + 1)) + 1 := by omega
        rw [if_pos hin, if_pos (by simp only [List.length_cons]; omega), e]
        simp
      · rw [if_neg hin, if_neg hx, if_neg (by simp only [List.length_cons]; omega)]

@[simp] theorem Dram.bytes_setFlaw (d : Dram) (line : Nat) (flaw : Option LineFlaw) :
    (d.setFlaw line flaw).bytes = d.bytes := rfl

/-- A byte outside the line keeps its value through a line write. -/
theorem Dram.get_writeLine_outside {d : Dram} (h : Memory.wf d.bytes = true) (line start : Nat)
    (data : List Byte) (report : LineReport) (x : Nat)
    (hx : x < line * Config.lineBytes ∨ line * Config.lineBytes + Config.lineBytes ≤ x) :
    Sparse.get (d.writeLine line start data report).bytes x = Sparse.get d.bytes x := by
  unfold Dram.writeLine
  split
  · rw [Dram.bytes_setFlaw, Dram.get_setBytes h, if_neg]
    simp only [Dram.mergedLine, lineAddresses, List.length_map, List.length_range]
    omega
  · rfl

/-- A byte outside the line keeps its value through a zero fill of the line. -/
theorem Dram.get_zeroLine_outside {d : Dram} (h : Memory.wf d.bytes = true) (line x : Nat)
    (hx : x < line * Config.lineBytes ∨ line * Config.lineBytes + Config.lineBytes ≤ x) :
    Sparse.get (d.zeroLine line).bytes x = Sparse.get d.bytes x := by
  unfold Dram.zeroLine
  split
  · rw [Dram.bytes_setFlaw, Dram.get_setBytes h, if_neg]
    simp only [List.length_replicate]
    omega
  · rfl

theorem Dram.bytes_wf {d : Dram} (h : d.wf = true) : Memory.wf d.bytes = true := by
  simp only [Dram.wf, Bool.and_eq_true] at h; exact h.1

/-- Bytes outside the lines keep their value through a WRITE_LINES operation. -/
theorem Dram.get_writeLines_outside {d : Dram} (h : d.wf = true) (start : Nat) (data : List Byte)
    (reports : List LineReport) (line count x : Nat)
    (hx : x < line * Config.lineBytes ∨ (line + count) * Config.lineBytes ≤ x) :
    Sparse.get (d.writeLines start data reports line count).bytes x = Sparse.get d.bytes x := by
  induction count generalizing d line reports with
  | zero => rfl
  | succ n ih =>
    rw [Dram.writeLines, ih (Dram.wf_writeLine h _ _ _ _)]
    · refine Dram.get_writeLine_outside (Dram.bytes_wf h) _ _ _ _ _ ?_
      simp only [Config.lineBytes] at hx ⊢
      omega
    · simp only [Config.lineBytes] at hx ⊢
      omega

/-- Bytes outside the lines keep their value through a ZERO_LINES operation. -/
theorem Dram.get_zeroLines_outside {d : Dram} (h : d.wf = true) (line count x : Nat)
    (hx : x < line * Config.lineBytes ∨ (line + count) * Config.lineBytes ≤ x) :
    Sparse.get (d.zeroLines line count).bytes x = Sparse.get d.bytes x := by
  induction count generalizing d line with
  | zero => rfl
  | succ n ih =>
    rw [Dram.zeroLines, ih (Dram.wf_zeroLine h _)]
    · refine Dram.get_zeroLine_outside (Dram.bytes_wf h) _ _ ?_
      simp only [Config.lineBytes] at hx ⊢
      omega
    · simp only [Config.lineBytes] at hx ⊢
      omega

/-! ### Flaws (R127 to R129) -/

@[simp] theorem Dram.flaws_setBytes (d : Dram) (a : Nat) (bs : List (Option Byte)) :
    (d.setBytes a bs).flaws = d.flaws := by
  induction bs generalizing d a with
  | nil => rfl
  | cons b bs ih => exact ih (d.setByte a b) (a + 1)

theorem Dram.flaws_wf {d : Dram} (h : d.wf = true) : Sparse.rising d.flaws = true := by
  simp only [Dram.wf, Bool.and_eq_true] at h; exact h.2

theorem Dram.flaw_setFlaw {d : Dram} (h : d.wf = true) (line x : Nat) (flaw : Option LineFlaw) :
    (d.setFlaw line flaw).flaw x = if x = line then flaw else d.flaw x :=
  Sparse.get_set (Dram.flaws_wf h) line x flaw

/-- The flaw of a line after a READ_LINES operation found it so (R127; log entry 27). -/
theorem Dram.flaw_keepFound {d : Dram} (h : d.wf = true) (line x : Nat) (found : LineReport) :
    (d.keepFound line found).flaw x =
      if x = line ∧ d.isFitted line = true then
        match found with
        | .clean => d.flaw line
        | .corrected => some .correctable
        | .uncorrectable =>
          if d.flaw line = some .marker then some .marker else some .uncorrectable
        | .unseen _ => none
      else d.flaw x := by
  unfold Dram.keepFound
  by_cases hf : d.isFitted line = true
  · simp only [hf, if_true, and_true]
    cases found with
    | clean => by_cases hx : x = line <;> simp [hx]
    | corrected => rw [Dram.flaw_setFlaw h]
    | uncorrectable =>
      by_cases hm : d.flaw line = some .marker
      · by_cases hx : x = line <;> simp [hx, hm]
      · simp only [hm, if_false]
        rw [Dram.flaw_setFlaw h]
    | unseen bytes =>
      rw [Dram.flaw_setFlaw (Dram.wf_setBytes h _ _)]
      by_cases hx : x = line <;> simp [hx, Dram.flaw]
  · simp [hf]

/-- The flaw of a line after one line of a WRITE_LINES operation (R128). -/
theorem Dram.flaw_writeLine {d : Dram} (h : d.wf = true) (line start x : Nat) (data : List Byte)
    (report : LineReport) :
    (d.writeLine line start data report).flaw x =
      if x = line ∧ d.isFitted line = true then
        if fullyNamed start data line = false ∧ d.found line report = .uncorrectable then
          some .marker
        else none
      else d.flaw x := by
  unfold Dram.writeLine
  by_cases hf : d.isFitted line = true
  · simp only [hf, if_true, and_true]
    rw [Dram.flaw_setFlaw (Dram.wf_setBytes h _ _)]
    by_cases hx : x = line <;> simp [hx, Dram.flaw]
  · simp [hf]

/-- The flaw of a line after one line of a ZERO_LINES operation (R129). -/
theorem Dram.flaw_zeroLine {d : Dram} (h : d.wf = true) (line x : Nat) :
    (d.zeroLine line).flaw x = if x = line ∧ d.isFitted line = true then none else d.flaw x := by
  unfold Dram.zeroLine
  by_cases hf : d.isFitted line = true
  · simp only [hf, if_true, and_true]
    rw [Dram.flaw_setFlaw (Dram.wf_setBytes h _ _)]
    by_cases hx : x = line <;> simp [hx, Dram.flaw]
  · simp [hf]

/-- A line that needed correction is found corrected again while nothing has rewritten it and no further error has come
(R127). -/
theorem Dram.found_keepFound_corrected {d : Dram} (h : d.wf = true) (line : Nat)
    (hf : d.isFitted line = true) :
    (d.keepFound line .corrected).found line .clean = .corrected := by
  have hfit : (d.keepFound line .corrected).isFitted line = true := by
    simpa [Dram.isFitted] using hf
  have hflaw := Dram.flaw_keepFound h line line .corrected
  simp only [hf, and_self, if_true] at hflaw
  simp [Dram.found, hfit, hflaw]

end Sys2Proof.Machine
end

