-- ==== Sys2Proof/Laws/PerInstr.lean ====
section
/-! SUPPORT. One lemma per command about the bytes it is on a link. The provers of statements on received bytes cite these
instead of splitting commandOfWire again. -/

namespace Sys2Proof.Laws.Wire

set_option Elab.async false

/-- The command that a sequenced frame of a host is, by its kind byte (R164, R202). -/
def commandOfKind (p : Port) (code : Byte) (f : RequestFrame) : Instr :=
  match RequestKind.ofCode code with
  | some k => requestCommand p f k
  | none => .unknownRequestKind p code f

/-- What a well-formed command is on the wire. A sequenced frame: its bytes are those of its header and payload, its kind is
no link-control kind, its payload is one the frame check passes, and its kind byte spells it again. Otherwise: no bytes,
or those of one of the three link-control frames, or bytes that fail the frame check. -/
def Statement (i : Instr) : Prop :=
  i.wf = true →
    match i.sequenced with
    | some (p, k, f) =>
      wireOfCommand i =
        some (p, frameBytes k f.seq f.flags f.mark f.byte6 f.byte7 f.payload) ∧
      isLinkControl k = false ∧ f.payload.length ≤ Config.maxPayload ∧ commandOfKind p k f = i
    | none =>
      wireOfCommand i = none ∨
      (∃ p seen, i = .linkHello p seen) ∨ (∃ p v h, i = .linkAck p v h) ∨
      (∃ p v, i = .linkNak p v) ∨ ∃ p bytes, i = .damagedFrame p bytes ∧ frameCheck bytes = false

/-- The lemma of a request of any kind but SET_LIMIT. -/
theorem statement_of_request {i : Instr} {p : Port} {k : RequestKind} {f : RequestFrame}
    (hs : i.sequenced = some (p, k.code, f))
    (hw : wireOfCommand i =
      some (p, frameBytes k.code f.seq f.flags f.mark f.byte6 f.byte7 f.payload))
    (hf : i.wf = true → f.wf = true) (hc : i.wf = true → requestCommand p f k = i) :
    Statement i := by
  intro wf
  rw [hs]
  refine ⟨hw, ?_, by simpa [RequestFrame.wf] using hf wf, ?_⟩
  · cases k <;> decide
  · have : RequestKind.ofCode k.code = some k := by cases k <;> decide
    simp only [commandOfKind, this]
    exact hc wf

/-- The lemma of a command that is no received frame. -/
theorem statement_of_none {i : Instr} (hs : i.sequenced = none) (hw : wireOfCommand i = none) :
    Statement i := by
  intro _
  rw [hs]
  exact .inl hw

theorem deviceReset : Statement .deviceReset :=
  statement_of_none rfl rfl

theorem resetRelease (admsel : Port) : Statement (.resetRelease admsel) :=
  statement_of_none rfl rfl

theorem receiverLockGained (port : Port) : Statement (.receiverLockGained port) :=
  statement_of_none rfl rfl

theorem receiverLockLost (port : Port) : Statement (.receiverLockLost port) :=
  statement_of_none rfl rfl

theorem damagedFrame (port : Port) (bytes : List Byte) : Statement (.damagedFrame port bytes) :=
  fun h => .inr (.inr (.inr (.inr ⟨_, _, rfl, by simpa [Instr.wf] using h⟩)))

theorem linkHello (port : Port) (seen : Bool) : Statement (.linkHello port seen) :=
  fun _ => .inr (.inl ⟨_, _, rfl⟩)

theorem linkAck (port : Port) (value : Byte) (hold : Bool) : Statement (.linkAck port value hold) :=
  fun _ => .inr (.inr (.inl ⟨_, _, _, rfl⟩))

theorem linkNak (port : Port) (value : Byte) : Statement (.linkNak port value) :=
  fun _ => .inr (.inr (.inr (.inl ⟨_, _, rfl⟩)))

theorem unknownRequestKind (port : Port) (kind : Byte) (frame : RequestFrame) : Statement (.unknownRequestKind port kind frame) := by
  intro h
  simp only [Instr.wf, Bool.and_eq_true, Option.isNone_iff_eq_none, Bool.not_eq_eq_eq_not,
    Bool.not_true] at h
  refine ⟨rfl, h.1.2, by simpa [RequestFrame.wf] using h.2, ?_⟩
  simp only [commandOfKind, h.1.1]

theorem openSession (port : Port) (frame : RequestFrame) : Statement (.openSession port frame) :=
  statement_of_request (k := .openSession) rfl rfl (fun h => h) fun _ => rfl

theorem closeSession (port : Port) (frame : RequestFrame) : Statement (.closeSession port frame) :=
  statement_of_request (k := .closeSession) rfl rfl (fun h => h) fun _ => rfl

theorem setOrder (port : Port) (frame : RequestFrame) : Statement (.setOrder port frame) :=
  statement_of_request (k := .setOrder) rfl rfl (fun h => h) fun _ => rfl

theorem read (port : Port) (frame : RequestFrame) : Statement (.read port frame) :=
  statement_of_request (k := .read) rfl rfl (fun h => h) fun _ => rfl

theorem write (port : Port) (frame : RequestFrame) : Statement (.write port frame) :=
  statement_of_request (k := .write) rfl rfl (fun h => h) fun _ => rfl

theorem fence (port : Port) (frame : RequestFrame) : Statement (.fence port frame) :=
  statement_of_request (k := .fence) rfl rfl (fun h => h) fun _ => rfl

theorem alloc (port : Port) (frame : RequestFrame) : Statement (.alloc port frame) :=
  statement_of_request (k := .alloc) rfl rfl (fun h => h) fun _ => rfl

theorem release (port : Port) (frame : RequestFrame) : Statement (.release port frame) :=
  statement_of_request (k := .release) rfl rfl (fun h => h) fun _ => rfl

theorem offer (port : Port) (frame : RequestFrame) : Statement (.offer port frame) :=
  statement_of_request (k := .offer) rfl rfl (fun h => h) fun _ => rfl

theorem accept (port : Port) (frame : RequestFrame) : Statement (.accept port frame) :=
  statement_of_request (k := .accept) rfl rfl (fun h => h) fun _ => rfl

theorem decline (port : Port) (frame : RequestFrame) : Statement (.decline port frame) :=
  statement_of_request (k := .decline) rfl rfl (fun h => h) fun _ => rfl

theorem withdraw (port : Port) (frame : RequestFrame) : Statement (.withdraw port frame) :=
  statement_of_request (k := .withdraw) rfl rfl (fun h => h) fun _ => rfl

theorem queryPort (port : Port) (frame : RequestFrame) : Statement (.queryPort port frame) :=
  statement_of_request (k := .queryPort) rfl rfl (fun h => h) fun _ => rfl

theorem queryPage (port : Port) (frame : RequestFrame) : Statement (.queryPage port frame) :=
  statement_of_request (k := .queryPage) rfl rfl (fun h => h) fun _ => rfl

theorem queryPool (port : Port) (frame : RequestFrame) : Statement (.queryPool port frame) :=
  statement_of_request (k := .queryPool) rfl rfl (fun h => h) fun _ => rfl

theorem queryFrame (port : Port) (frame : RequestFrame) : Statement (.queryFrame port frame) :=
  statement_of_request (k := .queryFrame) rfl rfl (fun h => h) fun _ => rfl

theorem claimAdmin (port : Port) (frame : RequestFrame) : Statement (.claimAdmin port frame) :=
  statement_of_request (k := .claimAdmin) rfl rfl (fun h => h) fun _ => rfl

theorem handAdmin (port : Port) (frame : RequestFrame) : Statement (.handAdmin port frame) :=
  statement_of_request (k := .handAdmin) rfl rfl (fun h => h) fun _ => rfl

theorem defineRegion (port : Port) (frame : RequestFrame) : Statement (.defineRegion port frame) :=
  statement_of_request (k := .defineRegion) rfl rfl (fun h => h) fun _ => rfl

theorem undefineRegion (port : Port) (frame : RequestFrame) : Statement (.undefineRegion port frame) :=
  statement_of_request (k := .undefineRegion) rfl rfl (fun h => h) fun _ => rfl

theorem onlineRegion (port : Port) (frame : RequestFrame) : Statement (.onlineRegion port frame) :=
  statement_of_request (k := .onlineRegion) rfl rfl (fun h => h) fun _ => rfl

theorem retireRegion (port : Port) (frame : RequestFrame) : Statement (.retireRegion port frame) :=
  statement_of_request (k := .retireRegion) rfl rfl (fun h => h) fun _ => rfl

theorem setQuota (port : Port) (frame : RequestFrame) : Statement (.setQuota port frame) :=
  statement_of_request (k := .setQuota) rfl rfl (fun h => h) fun _ => rfl

theorem setWeight (port : Port) (frame : RequestFrame) : Statement (.setWeight port frame) :=
  statement_of_request (k := .setWeight) rfl rfl (fun h => h) fun _ => rfl

theorem setLimitOfferLife (port : Port) (frame : RequestFrame) : Statement (.setLimitOfferLife port frame) := by
  refine statement_of_request (k := .setLimit) rfl rfl (fun h => ?_) fun h => ?_ <;>
    simp only [Instr.wf, Bool.and_eq_true, beq_iff_eq] at h
  · exact h.1
  · exact h.2

theorem setLimitHoldLimit (port : Port) (frame : RequestFrame) : Statement (.setLimitHoldLimit port frame) := by
  refine statement_of_request (k := .setLimit) rfl rfl (fun h => ?_) fun h => ?_ <;>
    simp only [Instr.wf, Bool.and_eq_true, beq_iff_eq] at h
  · exact h.1
  · exact h.2

theorem setLimitErrorLimit (port : Port) (frame : RequestFrame) : Statement (.setLimitErrorLimit port frame) := by
  refine statement_of_request (k := .setLimit) rfl rfl (fun h => ?_) fun h => ?_ <;>
    simp only [Instr.wf, Bool.and_eq_true, beq_iff_eq] at h
  · exact h.1
  · exact h.2

theorem setLimitReplayTimeout (port : Port) (frame : RequestFrame) : Statement (.setLimitReplayTimeout port frame) := by
  refine statement_of_request (k := .setLimit) rfl rfl (fun h => ?_) fun h => ?_ <;>
    simp only [Instr.wf, Bool.and_eq_true, beq_iff_eq] at h
  · exact h.1
  · exact h.2

theorem disablePort (port : Port) (frame : RequestFrame) : Statement (.disablePort port frame) :=
  statement_of_request (k := .disablePort) rfl rfl (fun h => h) fun _ => rfl

theorem enablePort (port : Port) (frame : RequestFrame) : Statement (.enablePort port frame) :=
  statement_of_request (k := .enablePort) rfl rfl (fun h => h) fun _ => rfl

theorem evictPort (port : Port) (frame : RequestFrame) : Statement (.evictPort port frame) :=
  statement_of_request (k := .evictPort) rfl rfl (fun h => h) fun _ => rfl

theorem grant : Statement .grant :=
  statement_of_none rfl rfl

theorem readLinesCompletion (reports : List LineReport) : Statement (.readLinesCompletion reports) :=
  statement_of_none rfl rfl

theorem writeLinesCompletion (reports : List LineReport) : Statement (.writeLinesCompletion reports) :=
  statement_of_none rfl rfl

theorem zeroLinesCompletion : Statement .zeroLinesCompletion :=
  statement_of_none rfl rfl

theorem transmitChoice (port : Port) : Statement (.transmitChoice port) :=
  statement_of_none rfl rfl

theorem retransmit (port : Port) : Statement (.retransmit port) :=
  statement_of_none rfl rfl

theorem sendLinkHello (port : Port) : Statement (.sendLinkHello port) :=
  statement_of_none rfl rfl

theorem sendLinkNak (port : Port) : Statement (.sendLinkNak port) :=
  statement_of_none rfl rfl

theorem sendLinkAck (port : Port) : Statement (.sendLinkAck port) :=
  statement_of_none rfl rfl

theorem helloTimerExpiry (port : Port) : Statement (.helloTimerExpiry port) :=
  statement_of_none rfl rfl

theorem replayTimerExpiry (port : Port) : Statement (.replayTimerExpiry port) :=
  statement_of_none rfl rfl

theorem holdTimerExpiry (port : Port) : Statement (.holdTimerExpiry port) :=
  statement_of_none rfl rfl

theorem offerExpiry (number : Byte) : Statement (.offerExpiry number) :=
  statement_of_none rfl rfl

end Sys2Proof.Laws.Wire
end

