-- ==== Sys2Proof/Laws/Session.lean ====
section
/-! SUPPORT. What a teardown and a link loss leave alone, and what they leave of their own port. -/

namespace Sys2Proof.Machine

/-- What the end of a session of port `p` may change: the pool, the offers, the apertures, notices, the role, and of the
port itself its session, its entries and the queues of its Transmit Unit. -/
structure Torn (p : Port) (s t : State) : Prop where
  rest : SameRest s t
  role : t.role = s.role ∨ (s.role = .held p ∧ t.role = .vacant)
  others : ∀ q, q ≠ p → SamePort (s.port q) (t.port q)
  link : (t.port p).link = (s.port p).link
  sent : (t.port p).sent = (s.port p).sent
  hold : (t.port p).transmit.hold = (s.port p).transmit.hold
  holdTimer : (t.port p).transmit.holdTimer = (s.port p).transmit.holdTimer
  overdueSent : (t.port p).transmit.overdueSent = (s.port p).transmit.overdueSent

theorem Torn.refl (p : Port) (s : State) : Torn p s s :=
  ⟨.refl s, .inl rfl, fun _ _ => .refl _, rfl, rfl, rfl, rfl, rfl⟩

theorem Torn.trans {p : Port} {s t u : State} (h : Torn p s t) (g : Torn p t u) : Torn p s u where
  rest := h.rest.trans g.rest
  role := by
    rcases h.role with h1 | ⟨h1, h2⟩ <;> rcases g.role with g1 | ⟨g1, g2⟩
    · exact .inl (g1.trans h1)
    · exact .inr ⟨h1 ▸ g1, g2⟩
    · exact .inr ⟨h1, g1.trans h2⟩
    · rw [h2] at g1; simp at g1
  others := fun q hq => (h.others q hq).trans (g.others q hq)
  link := g.link.trans h.link
  sent := g.sent.trans h.sent
  hold := g.hold.trans h.hold
  holdTimer := g.holdTimer.trans h.holdTimer
  overdueSent := g.overdueSent.trans h.overdueSent

theorem Settles.torn {s t : State} (h : Settles s t) (p : Port) : Torn p s t :=
  ⟨h.rest, .inl h.role, fun q _ => h.port q, (h.port p).link, (h.port p).sent, (h.port p).hold,
    (h.port p).holdTimer, (h.port p).overdueSent⟩

theorem Quiet.torn {s t : State} (h : Quiet s t) (p : Port) : Torn p s t := h.settles.torn p

theorem modSession_torn (s : State) (p : Port) (f : PortController → PortController) :
    Torn p s (s.modSession p f) := by
  refine ⟨⟨rfl, rfl, rfl, rfl, rfl, rfl, rfl, rfl, rfl⟩, .inl rfl, fun q hq => ?_, ?_, ?_, ?_, ?_, ?_⟩
  · rw [port_modSession_ne s hq]; exact .refl _
  all_goals simp

theorem modRequests_torn (s : State) (p : Port) (f : RequestUnit → RequestUnit) :
    Torn p s (s.modRequests p f) := by
  refine ⟨⟨rfl, rfl, rfl, rfl, rfl, rfl, rfl, rfl, rfl⟩, .inl rfl, fun q hq => ?_, ?_, ?_, ?_, ?_, ?_⟩
  · rw [port_modRequests_ne s hq]; exact .refl _
  all_goals simp

theorem clearForTeardown_torn (s : State) (p : Port) :
    Torn p s (s.modTransmit p TransmitUnit.clearForTeardown) := by
  refine ⟨⟨rfl, rfl, rfl, rfl, rfl, rfl, rfl, rfl, rfl⟩, .inl rfl, fun q hq => ?_, ?_, ?_, ?_, ?_, ?_⟩
  · rw [port_modTransmit_ne s hq]; exact .refl _
  all_goals simp [TransmitUnit.clearForTeardown]

theorem discardEntry_torn (s : State) (p : Port) (e : Entry) : Torn p s (s.discardEntry p e) := by
  unfold State.discardEntry
  split
  · split
    · refine Torn.trans ?_ ((unpin_quiet _ _).torn p)
      split
      · exact modRequests_torn s p _
      · exact .refl p s
    · exact .refl p s
  · exact .refl p s

theorem Torn.foldl {β : Type} (p : Port) (f : State → β → State) (h : ∀ s b, Torn p s (f s b))
    (l : List β) (s : State) : Torn p s (l.foldl f s) := by
  induction l generalizing s with
  | nil => exact .refl p s
  | cons b l ih => exact (h s b).trans (ih (f s b))

theorem tearQueues_torn (s : State) (p : Port) : Torn p s (s.tearQueues p) :=
  (Torn.foldl p _ (fun t e => discardEntry_torn t p e) _ s).trans (modRequests_torn _ p _)

theorem vacateRole_torn (s : State) (p : Port) : Torn p s (s.vacateRole p) := by
  unfold State.vacateRole
  split
  · rename_i h
    have h1 : s.role = .held p := by simpa [State.isAdmin] using h
    refine Torn.trans (t := { s with role := .vacant }) ?_ ((raiseAdminChanged_quiet _ _).torn p)
    exact ⟨⟨rfl, rfl, rfl, rfl, rfl, rfl, rfl, rfl, rfl⟩, .inr ⟨h1, rfl⟩, fun _ _ => .refl _, rfl, rfl,
      rfl, rfl, rfl⟩
  · exact .refl p s

theorem endTeardown_torn (s : State) (p : Port) : Torn p s (s.endTeardown p) := by
  have h : Torn p s ((s.modSession p fun c => { c with state := c.endState, disablePending := false }).raisePortState
      p (s.port p).session.endState (s.port p).session.endCause) :=
    (modSession_torn s p _).trans ((raisePortState_quiet _ _ _ _).torn p)
  unfold State.endTeardown State.raiseSessionEnded
  simp only
  split
  · exact h.trans ((enterNotice_quiet _ _ _).torn p)
  · split
    · exact h.trans ((enterNotice_quiet _ _ _).torn p)
    · exact h

theorem endTeardownIfEmpty_torn (s : State) (p : Port) : Torn p s (s.endTeardownIfEmpty p) := by
  unfold State.endTeardownIfEmpty
  split
  · exact endTeardown_torn s p
  · exact .refl p s

theorem startTeardown_torn (s : State) (p : Port) (cause : TeardownCause) :
    Torn p s (s.startTeardown p cause) :=
  ((((((modSession_torn s p _).trans (clearForTeardown_torn _ p)).trans (tearQueues_torn _ p)).trans
    ((removeOffersOf_settles _ p).torn p)).trans (vacateRole_torn _ p)).trans
      ((releaseAll_settles _ p).torn p)).trans (endTeardownIfEmpty_torn _ p)

/-! ### The session and the entries of the port -/

@[simp] theorem session_discardEntry (s : State) (p q : Port) (e : Entry) :
    ((s.discardEntry p e).port q).session = (s.port q).session := by
  unfold State.discardEntry
  split
  · split
    · rw [((unpin_quiet _ _).settles.port q).session]
      split <;> simp
    · rfl
  · rfl

/-- A teardown's discards leave the list of entries as it is; the entries go afterwards. -/
theorem entries_discardEntry (s : State) (p q : Port) (e : Entry) :
    ((s.discardEntry p e).port q).requests.entries = (s.port q).requests.entries := by
  unfold State.discardEntry
  split
  · split
    · rw [((unpin_quiet _ _).settles.port q).requests]
      split
      · by_cases h : q = p
        · subst h; simp [RequestUnit.freeWriteLines]
        · rw [port_modRequests_ne s h]
      · rfl
    · rfl
  · rfl

theorem entries_foldl_discard (l : List Entry) (s : State) (p q : Port) :
    ((l.foldl (fun t e => t.discardEntry p e) s).port q).requests.entries =
      (s.port q).requests.entries := by
  induction l generalizing s with
  | nil => rfl
  | cons e l ih => rw [List.foldl_cons, ih, entries_discardEntry]

theorem session_foldl_discard (l : List Entry) (s : State) (p q : Port) :
    ((l.foldl (fun t e => t.discardEntry p e) s).port q).session = (s.port q).session := by
  induction l generalizing s with
  | nil => rfl
  | cons e l ih => rw [List.foldl_cons, ih, session_discardEntry]

/-- After the class queues' part of a teardown only entries IN_MEMORY are left (R97). -/
theorem entries_tearQueues (s : State) (p : Port) :
    ((s.tearQueues p).port p).requests.entries = (s.port p).requests.entries.filter Entry.inMem := by
  simp [State.tearQueues, entries_foldl_discard]

@[simp] theorem session_tearQueues (s : State) (p q : Port) :
    ((s.tearQueues p).port q).session = (s.port q).session := by
  simp [State.tearQueues, session_foldl_discard]

@[simp] theorem session_vacateRole (s : State) (p q : Port) :
    ((s.vacateRole p).port q).session = (s.port q).session := by
  unfold State.vacateRole; split <;> simp

@[simp] theorem requests_vacateRole (s : State) (p q : Port) :
    ((s.vacateRole p).port q).requests = (s.port q).requests := by
  unfold State.vacateRole; split <;> simp

/-- After its start a teardown keeps the entries IN_MEMORY alone. -/
theorem entries_endTeardown (s : State) (p q : Port) :
    ((s.endTeardown p).port q).requests = (s.port q).requests := by
  unfold State.endTeardown State.raiseSessionEnded
  simp only
  split
  · simp
  · split <;> simp

/-- The session of a port after the end of its teardown (R188). -/
theorem session_endTeardown (s : State) (p : Port) :
    ((s.endTeardown p).port p).session =
      { (s.port p).session with state := (s.port p).session.endState, disablePending := false } := by
  unfold State.endTeardown State.raiseSessionEnded
  simp only
  split
  · simp
  · split <;> simp

/-- The sessions of the other ports stay. -/
theorem Torn.session {p q : Port} {s t : State} (h : Torn p s t) (hq : q ≠ p) :
    (t.port q).session = (s.port q).session := (h.others q hq).session

/-- The state of a port's teardown before its end: only entries IN_MEMORY, TEARDOWN with its cause (R186). -/
theorem startTeardown_before (s : State) (p : Port) (cause : TeardownCause) :
    ∃ u, s.startTeardown p cause = u.endTeardownIfEmpty p ∧ Torn p s u ∧
      (u.port p).session = { (s.port p).session with state := .teardown, cause := some cause } ∧
      (u.port p).requests.entries = (s.port p).requests.entries.filter Entry.inMem := by
  refine ⟨_, rfl, ?_, ?_, ?_⟩
  · exact (((((modSession_torn s p _).trans (clearForTeardown_torn _ p)).trans (tearQueues_torn _ p)).trans
      ((removeOffersOf_settles _ p).torn p)).trans (vacateRole_torn _ p)).trans
        ((releaseAll_settles _ p).torn p)
  · rw [((releaseAll_settles _ p).port p).session, session_vacateRole,
      ((removeOffersOf_settles _ p).port p).session, session_tearQueues]
    simp
  · rw [((releaseAll_settles _ p).port p).requests, requests_vacateRole,
      ((removeOffersOf_settles _ p).port p).requests, entries_tearQueues]
    simp

end Sys2Proof.Machine
end

