-- ==== Sys2Proof/Laws/Step.lean ====
section
/-! SUPPORT. One step, and the one shape of every request: its frame arrives, and its acceptance acts and then puts its
entry at the tail of its queue. -/

namespace Sys2Proof.Machine

/-- A step runs the command at the front. -/
theorem step_cons (c : Instr) (rest : List Instr) (s : State) :
    step { s with pending := c :: rest } = exec c { s with pending := rest } := rfl

/-- With no command waiting a tick passes. -/
theorem step_nil {s : State} (h : s.pending = []) : step s = .next { s with now := s.now + 1 } := by
  simp [step, h]

/-- What the action of a request never touches: every link and the frames sent, the entries of its own port, the DRAM and
the operation in flight, the reset pin, the time, the free values, the waiting commands; and the acceptance counters,
but for an OPEN. -/
structure Acted (p : Port) (k : RequestKind) (s u : State) : Prop where
  links : ∀ q, (u.port q).link = (s.port q).link
  sent : ∀ q, (u.port q).sent = (s.port q).sent
  entries : (u.port p).requests.entries = (s.port p).requests.entries
  counters : k ≠ .openSession → ∀ c, (u.port p).requests.nextNumber c = (s.port p).requests.nextNumber c
  dram : u.dram = s.dram
  inFlight : u.inFlight = s.inFlight
  resetLow : u.resetLow = s.resetLow
  now : u.now = s.now
  freeIndex : u.freeIndex = s.freeIndex
  pending : u.pending = s.pending
  holder : u.scheduler.holder = s.scheduler.holder
  turnLines : u.scheduler.turnLines = s.scheduler.turnLines

theorem Acted.refl (p : Port) (k : RequestKind) (s : State) : Acted p k s s :=
  ⟨fun _ => rfl, fun _ => rfl, rfl, fun _ _ => rfl, rfl, rfl, rfl, rfl, rfl, rfl, rfl, rfl⟩

theorem Acted.trans {p : Port} {k : RequestKind} {s t u : State} (h : Acted p k s t)
    (g : Acted p k t u) : Acted p k s u :=
  ⟨fun q => (g.links q).trans (h.links q), fun q => (g.sent q).trans (h.sent q),
    g.entries.trans h.entries, fun hk c => (g.counters hk c).trans (h.counters hk c),
    g.dram.trans h.dram, g.inFlight.trans h.inFlight, g.resetLow.trans h.resetLow, g.now.trans h.now,
    g.freeIndex.trans h.freeIndex, g.pending.trans h.pending, g.holder.trans h.holder,
    g.turnLines.trans h.turnLines⟩

theorem Settles.acted {s u : State} (h : Settles s u) (p : Port) (k : RequestKind) : Acted p k s u :=
  ⟨fun q => (h.port q).link, fun q => (h.port q).sent, by rw [(h.port p).requests],
    fun _ c => by rw [(h.port p).requests], h.rest.dram, h.rest.inFlight, h.rest.resetLow, h.rest.now,
    h.rest.freeIndex, h.rest.pending, by rw [h.rest.scheduler], by rw [h.rest.scheduler]⟩

theorem Quiet.acted {s u : State} (h : Quiet s u) (p : Port) (k : RequestKind) : Acted p k s u :=
  h.settles.acted p k

/-- The teardown of another port. -/
theorem Torn.acted {q : Port} {s u : State} (h : Torn q s u) {p : Port} (hp : p ≠ q) (k : RequestKind) :
    Acted p k s u := by
  refine ⟨fun x => ?_, fun x => ?_, by rw [(h.others p hp).requests], fun _ c => by
    rw [(h.others p hp).requests], h.rest.dram, h.rest.inFlight, h.rest.resetLow, h.rest.now,
    h.rest.freeIndex, h.rest.pending, by rw [h.rest.scheduler], by rw [h.rest.scheduler]⟩
  · by_cases hx : x = q
    · subst hx; exact h.link
    · exact (h.others x hx).link
  · by_cases hx : x = q
    · subst hx; exact h.sent
    · exact (h.others x hx).sent

theorem modSession_acted (s : State) (p q : Port) (k : RequestKind)
    (f : PortController → PortController) : Acted p k s (s.modSession q f) :=
  ⟨fun _ => by simp, fun _ => by simp, by simp, fun _ _ => by simp, rfl, rfl, rfl, rfl, rfl, rfl, rfl,
    rfl⟩

theorem withRole_acted (s : State) (p : Port) (k : RequestKind) (r : AdminRole) :
    Acted p k s { s with role := r } :=
  ⟨fun _ => rfl, fun _ => rfl, rfl, fun _ _ => rfl, rfl, rfl, rfl, rfl, rfl, rfl, rfl, rfl⟩

theorem giveRole_acted (s : State) (p q : Port) (k : RequestKind) : Acted p k s (s.giveRole q) :=
  (withRole_acted s p k _).trans ((raiseAdminChanged_quiet _ _).acted p k)

/-- A request that asks for the role acts, or is answered NOT_ADMIN (R193). -/
theorem administrative_acted {s : State} {p : Port} {k : RequestKind} {act : State → Answer}
    (h : Acted p k s (act s).state) : Acted p k s (s.administrative p act).state := by
  unfold State.administrative
  split
  · exact h
  · exact .refl p k s

theorem alloc_acted (s : State) (p : Port) (x : List Byte) : Acted p .alloc s (s.alloc p x).state := by
  unfold State.alloc
  simp only
  split
  · exact .refl _ _ _
  · split
    · exact .refl _ _ _
    · split
      · exact .refl _ _ _
      · split
        · exact .refl _ _ _
        · exact (((take_quiet s p _).settles.trans (mapFrames_settles _ p _ _))).acted p _

theorem release_acted (s : State) (p : Port) (x : List Byte) :
    Acted p .release s (s.release p x).state := by
  unfold State.release
  simp only
  split
  · exact .refl _ _ _
  · split
    · exact .refl _ _ _
    · exact (releasePages_settles s p _).acted p _

theorem offer_acted (s : State) (p : Port) (x : List Byte) : Acted p .offer s (s.offer p x).state := by
  unfold State.offer State.offerMapping
  simp only
  split
  · exact .refl _ _ _
  · split
    · split
      · exact .refl _ _ _
      · split
        · split
          · exact .refl _ _ _
          · split
            · exact .refl _ _ _
            · split
              · exact .refl _ _ _
              · split
                · exact .refl _ _ _
                · split
                  · exact .refl _ _ _
                  · exact (createOffer_settles s _).acted p _
        · exact .refl _ _ _
    · exact .refl _ _ _
    · exact .refl _ _ _

theorem acceptOffer_acted (s : State) (p : Port) (x : List Byte) :
    Acted p .accept s (s.acceptOffer p x).state := by
  unfold State.acceptOffer
  simp only
  split
  · exact .refl _ _ _
  · split
    · exact .refl _ _ _
    · split
      · exact .refl _ _ _
      · split
        · exact .refl _ _ _
        · exact (((removeOffer_settles s _).trans (mapAccepted_settles _ p _ _)).trans
            (raiseNotice_quiet _ _ _).settles).acted p _

theorem declineOffer_acted (s : State) (p : Port) (x : List Byte) :
    Acted p .decline s (s.declineOffer p x).state := by
  unfold State.declineOffer
  simp only
  split
  · exact .refl _ _ _
  · exact ((removeOffer_settles s _).trans (raiseNotice_quiet _ _ _).settles).acted p _

theorem withdrawOffer_acted (s : State) (p : Port) (x : List Byte) :
    Acted p .withdraw s (s.withdrawOffer p x).state := by
  unfold State.withdrawOffer
  simp only
  split
  · exact .refl _ _ _
  · exact ((removeOffer_settles s _).trans (raiseNotice_quiet _ _ _).settles).acted p _

theorem setOrder_acted (s : State) (p : Port) (x : List Byte) :
    Acted p .setOrder s (s.setOrder p x).state := by
  unfold State.setOrder
  simp only
  split
  · split
    · refine ⟨fun q => ?_, fun q => ?_, ?_, fun _ c => ?_, rfl, rfl, rfl, rfl, rfl, rfl, rfl, rfl⟩
      · simp [Answer.ok]
      · simp [Answer.ok]
      · simp [Answer.ok]
      · cases c <;> simp [Answer.ok, RequestUnit.nextNumber]
    · exact .refl _ _ _
  · exact .refl _ _ _

theorem openSession_acted (s : State) (p : Port) :
    Acted p .openSession s (s.openSession p).state := by
  have h1 : Acted p .openSession s
      ((s.modSession p fun c => { c with state := .opened }).modRequests p fun r =>
        { r with nextExpedited := 0, nextOrdinary := 0 }) := by
    refine ⟨fun q => ?_, fun q => ?_, ?_, fun h => absurd rfl h, rfl, rfl, rfl, rfl, rfl, rfl, rfl, rfl⟩
    · simp
    · simp
    · simp
  unfold State.openSession
  simp only [Answer.ok]
  refine Acted.trans ?_ ((raisePortState_quiet _ _ _ _).acted p _)
  split
  · exact h1.trans ((withRole_acted _ p _ _).trans ((raiseAdminChanged_quiet _ _).acted p _))
  · exact h1

theorem claimAdmin_acted (s : State) (p : Port) : Acted p .claimAdmin s (s.claimAdmin p).state := by
  unfold State.claimAdmin
  split
  · exact giveRole_acted s p p _
  · split
    · exact .refl _ _ _
    · exact .refl _ _ _
  · exact .refl _ _ _

theorem handAdmin_acted (s : State) (p : Port) (x : List Byte) :
    Acted p .handAdmin s (s.handAdmin p x).state := by
  unfold State.handAdmin
  split
  · exact .refl _ _ _
  · split
    · exact .refl _ _ _
    · split
      · exact giveRole_acted s p _ _
      · exact .refl _ _ _

theorem defineRegion_acted (s : State) (p : Port) (x : List Byte) :
    Acted p .defineRegion s (s.defineRegion x).state := by
  unfold State.defineRegion
  simp only
  split
  · exact .refl _ _ _
  · split
    · exact .refl _ _ _
    · split
      · exact .refl _ _ _
      · simp only [Answer.ok]
        exact (modRegion_quiet s _ _).acted p _

theorem undefineRegion_acted (s : State) (p : Port) (x : List Byte) :
    Acted p .undefineRegion s (s.undefineRegion x).state := by
  unfold State.undefineRegion
  split
  · exact .refl _ _ _
  · split
    · simp only [Answer.ok]
      exact (modRegion_quiet s _ _).acted p _
    · exact .refl _ _ _

theorem bringOnline_quiet (s : State) (k : Slot) : Quiet s (s.bringOnline k) :=
  ((modRegion_quiet s k _).trans (modPool_quiet _ _)).trans (settleScrub_quiet _)

theorem onlineRegion_acted (s : State) (p : Port) (x : List Byte) :
    Acted p .onlineRegion s (s.onlineRegion x).state := by
  unfold State.onlineRegion
  split
  · exact .refl _ _ _
  · split
    · exact (bringOnline_quiet s _).acted p _
    · exact .refl _ _ _

theorem retireRequest_acted (s : State) (p : Port) (x : List Byte) :
    Acted p .retireRegion s (s.retireRequest x).state := by
  unfold State.retireRequest
  split
  · exact .refl _ _ _
  · split
    · exact (startDrain_quiet s _ _).acted p _
    · exact .refl _ _ _

theorem setQuota_acted (s : State) (p : Port) (x : List Byte) :
    Acted p .setQuota s (s.setQuota x).state := by
  unfold State.setQuota
  simp only
  split
  · exact .refl _ _ _
  · split
    · exact .refl _ _ _
    · split
      · exact .refl _ _ _
      · refine ⟨fun q => ?_, fun q => ?_, ?_, fun _ c => ?_, rfl, rfl, rfl, rfl, rfl, rfl, rfl, rfl⟩ <;>
          simp [Answer.ok]

theorem setWeight_acted (s : State) (p : Port) (x : List Byte) :
    Acted p .setWeight s (s.setWeight x).state := by
  unfold State.setWeight
  simp only
  split
  · exact ⟨fun _ => rfl, fun _ => rfl, rfl, fun _ _ => rfl, rfl, rfl, rfl, rfl, rfl, rfl, rfl, rfl⟩
  · exact .refl _ _ _

theorem setOfferLife_acted (s : State) (p : Port) (v : Nat) :
    Acted p .setLimit s (s.setOfferLife v).state := by
  unfold State.setOfferLife
  split
  · exact ⟨fun _ => rfl, fun _ => rfl, rfl, fun _ _ => rfl, rfl, rfl, rfl, rfl, rfl, rfl, rfl, rfl⟩
  · exact .refl _ _ _

theorem setHoldLimit_acted (s : State) (p : Port) (v : Nat) :
    Acted p .setLimit s (s.setHoldLimit v).state := by
  unfold State.setHoldLimit
  split
  · exact ⟨fun _ => rfl, fun _ => rfl, rfl, fun _ _ => rfl, rfl, rfl, rfl, rfl, rfl, rfl, rfl, rfl⟩
  · exact .refl _ _ _

theorem setErrorLimit_acted (s : State) (p : Port) (v : Nat) :
    Acted p .setLimit s (s.setErrorLimit v).state := by
  unfold State.setErrorLimit
  split
  · exact ⟨fun _ => rfl, fun _ => rfl, rfl, fun _ _ => rfl, rfl, rfl, rfl, rfl, rfl, rfl, rfl, rfl⟩
  · exact .refl _ _ _

theorem setReplayTimeout_acted (s : State) (p : Port) (v : Nat) :
    Acted p .setLimit s (s.setReplayTimeout v).state := by
  unfold State.setReplayTimeout
  split
  · exact ⟨fun _ => rfl, fun _ => rfl, rfl, fun _ _ => rfl, rfl, rfl, rfl, rfl, rfl, rfl, rfl, rfl⟩
  · exact .refl _ _ _

theorem disable_acted (s : State) {p q : Port} (h : p ≠ q) (k : RequestKind) :
    Acted p k s (s.disable q) := by
  unfold State.disable
  split
  · exact (startTeardown_torn s q _).acted h k
  · exact (startTeardown_torn s q _).acted h k
  · exact modSession_acted s p q k _
  · exact (modSession_acted s p q k _).trans ((raisePortState_quiet _ _ _ _).acted p k)
  · exact .refl p k s

theorem disablePort_acted (s : State) (p : Port) (x : List Byte) :
    Acted p .disablePort s (s.disablePort p x).state := by
  unfold State.disablePort
  split
  · exact .refl _ _ _
  · split
    · exact .refl _ _ _
    · rename_i h
      exact disable_acted s (fun e => h e.symm) _

theorem enablePort_acted (s : State) (p : Port) (x : List Byte) :
    Acted p .enablePort s (s.enablePort x).state := by
  unfold State.enablePort
  split
  · exact .refl _ _ _
  · split
    · exact (modSession_acted s p _ _ _).trans ((raisePortState_quiet _ _ _ _).acted p _)
    · exact .refl _ _ _

theorem evictPort_acted (s : State) (p : Port) (x : List Byte) :
    Acted p .evictPort s (s.evictPort p x).state := by
  unfold State.evictPort
  split
  · exact .refl _ _ _
  · split
    · exact .refl _ _ _
    · split
      · rename_i h _
        simp only [State.portAnswer, Answer.ok]
        exact (startTeardown_torn s _ _).acted (fun e => h e.symm) _
      · exact .refl _ _ _

theorem queryPort_acted (s : State) (p : Port) (x : List Byte) :
    Acted p .queryPort s (s.queryPort p x).state := by
  unfold State.queryPort
  split
  · exact .refl _ _ _
  · split <;> exact .refl _ _ _

theorem queryPage_acted (s : State) (p : Port) (x : List Byte) :
    Acted p .queryPage s (s.queryPage p x).state := by
  unfold State.queryPage
  split
  · exact .refl _ _ _
  · split <;> exact .refl _ _ _

theorem queryFrame_acted (s : State) (p : Port) (x : List Byte) :
    Acted p .queryFrame s (s.queryFrame p x).state := by
  unfold State.queryFrame
  refine administrative_acted ?_
  simp only
  split <;> exact .refl _ _ _

/-- The acceptance of a request: it acts, and then its entry joins its queue. -/
structure AcceptedAs (p : Port) (k : RequestKind) (f : RequestFrame) (s t : State) : Prop where
  shape : ∃ u e, t = u.enqueue p e ∧ Acted p k s u ∧ e.kind = k ∧ e.cls = frameClass f ∧
    e.mark = f.mark ∧ e.number = (u.port p).requests.nextNumber (frameClass f) ∧
    (e.state = .waiting ∨ e.state = .done) ∧ (e.state = .done ↔ e.result.isSome = true) ∧
    (e.state = .waiting → k = .read ∨ k = .write ∨ k = .fence ∨ k = .closeSession)

/-- A request that acts at acceptance. -/
theorem acceptDone_acceptedAs {s : State} {p : Port} {k : RequestKind} {f : RequestFrame}
    {act : State → Answer} (h : Acted p k s (act s).state) :
    AcceptedAs p k f s (s.acceptDone p k f act) :=
  ⟨⟨_, _, rfl, h, rfl, rfl, rfl, rfl, .inr rfl, by simp, by simp⟩⟩

theorem acceptBarrier_acceptedAs {s u : State} {p : Port} {k : RequestKind} {f : RequestFrame}
    (h : Acted p k s u) (hk : k = .fence ∨ k = .closeSession) :
    AcceptedAs p k f s (u.acceptBarrier p k f) := by
  unfold State.acceptBarrier
  simp only
  split
  · exact ⟨⟨_, _, rfl, h, rfl, rfl, rfl, rfl, .inr rfl, by simp, by simp⟩⟩
  · exact ⟨⟨_, _, rfl, h, rfl, rfl, rfl, rfl, .inl rfl, by simp [State.newEntry], by
      rcases hk with rfl | rfl <;> simp⟩⟩

theorem acceptRead_acceptedAs (s : State) (p : Port) (f : RequestFrame) :
    AcceptedAs p .read f s (s.acceptRead p f) := by
  unfold State.acceptRead
  simp only
  split
  · exact ⟨⟨_, _, rfl, .refl _ _ s, rfl, rfl, rfl, rfl, .inr rfl, by simp, by simp⟩⟩
  · exact ⟨⟨_, _, rfl, (pin_quiet s _).acted p _, rfl, rfl, rfl, rfl, .inl rfl, by simp [State.newEntry],
      by simp⟩⟩

theorem acceptWrite_acceptedAs (s : State) (p : Port) (f : RequestFrame) :
    AcceptedAs p .write f s (s.acceptWrite p f) := by
  unfold State.acceptWrite
  simp only
  split
  · exact ⟨⟨_, _, rfl, .refl _ _ s, rfl, rfl, rfl, rfl, .inr rfl, by simp, by simp⟩⟩
  · refine ⟨⟨_, _, rfl, ?_, rfl, rfl, rfl, ?_, .inl rfl, by simp [State.newEntry], by simp⟩⟩
    · refine ⟨fun q => ?_, fun q => ?_, ?_, fun _ c => ?_, rfl, rfl, rfl, rfl, rfl, rfl, rfl, rfl⟩
      · simp
      · simp
      · simp
      · cases c <;> simp [RequestUnit.nextNumber]
    · cases h : frameClass f <;> simp [State.newEntry, RequestUnit.nextNumber, h]

/-- The one shape of every request of a known kind: its frame arrives (R78), and its acceptance is as above. -/
theorem exec_request (p : Port) (f : RequestFrame) (k : RequestKind) :
    ∃ accept : State → State,
      (∀ s, exec (requestCommand p f k) s = whenRunning s (s.requestArrives p k f accept)) ∧
      ∀ s, AcceptedAs p k f s (accept s) := by
  cases k with
  | setLimit =>
    have key : ∀ act : State → Answer, (∀ s, Acted p .setLimit s (act s).state) →
        ∀ s, AcceptedAs p .setLimit f s
          (s.acceptDone p .setLimit f fun u => u.administrative p act) :=
      fun act h s => acceptDone_acceptedAs (administrative_acted (h s))
    by_cases h2 : (byteAt f.payload 0).toNat = 2
    · exact ⟨_, fun s => by simp only [requestCommand, limitCommand, h2]; rfl,
        key _ fun s => setHoldLimit_acted s p _⟩
    · by_cases h3 : (byteAt f.payload 0).toNat = 3
      · exact ⟨_, fun s => by simp only [requestCommand, limitCommand, h3]; rfl,
          key _ fun s => setErrorLimit_acted s p _⟩
      · by_cases h4 : (byteAt f.payload 0).toNat = 4
        · exact ⟨_, fun s => by simp only [requestCommand, limitCommand, h4]; rfl,
            key _ fun s => setReplayTimeout_acted s p _⟩
        · refine ⟨_, fun s => ?_, key (fun v => v.setOfferLife (limitValue f.payload)) fun s =>
            setOfferLife_acted s p _⟩
          have : limitCommand p f = .setLimitOfferLife p f := by
            unfold limitCommand
            split <;> first | (rename_i h; omega) | rfl
          simp only [requestCommand, this]
          rfl
  | openSession => exact ⟨_, fun s => rfl, fun s => acceptDone_acceptedAs (openSession_acted s p)⟩
  | closeSession =>
    exact ⟨_, fun s => rfl, fun s => acceptBarrier_acceptedAs (modSession_acted s p p _ _) (.inr rfl)⟩
  | setOrder => exact ⟨_, fun s => rfl, fun s => acceptDone_acceptedAs (setOrder_acted s p _)⟩
  | read => exact ⟨_, fun s => rfl, fun s => acceptRead_acceptedAs s p f⟩
  | write => exact ⟨_, fun s => rfl, fun s => acceptWrite_acceptedAs s p f⟩
  | fence => exact ⟨_, fun s => rfl, fun s => acceptBarrier_acceptedAs (.refl _ _ s) (.inl rfl)⟩
  | alloc => exact ⟨_, fun s => rfl, fun s => acceptDone_acceptedAs (alloc_acted s p _)⟩
  | release => exact ⟨_, fun s => rfl, fun s => acceptDone_acceptedAs (release_acted s p _)⟩
  | offer => exact ⟨_, fun s => rfl, fun s => acceptDone_acceptedAs (offer_acted s p _)⟩
  | accept => exact ⟨_, fun s => rfl, fun s => acceptDone_acceptedAs (acceptOffer_acted s p _)⟩
  | decline => exact ⟨_, fun s => rfl, fun s => acceptDone_acceptedAs (declineOffer_acted s p _)⟩
  | withdraw => exact ⟨_, fun s => rfl, fun s => acceptDone_acceptedAs (withdrawOffer_acted s p _)⟩
  | queryPort => exact ⟨_, fun s => rfl, fun s => acceptDone_acceptedAs (queryPort_acted s p _)⟩
  | queryPage => exact ⟨_, fun s => rfl, fun s => acceptDone_acceptedAs (queryPage_acted s p _)⟩
  | queryPool => exact ⟨_, fun s => rfl, fun s => acceptDone_acceptedAs (.refl _ _ s)⟩
  | queryFrame => exact ⟨_, fun s => rfl, fun s => acceptDone_acceptedAs (queryFrame_acted s p _)⟩
  | claimAdmin => exact ⟨_, fun s => rfl, fun s => acceptDone_acceptedAs (claimAdmin_acted s p)⟩
  | handAdmin =>
    exact ⟨_, fun s => rfl, fun s => acceptDone_acceptedAs (administrative_acted (handAdmin_acted s p _))⟩
  | defineRegion =>
    exact ⟨_, fun s => rfl, fun s =>
      acceptDone_acceptedAs (administrative_acted (defineRegion_acted s p _))⟩
  | undefineRegion =>
    exact ⟨_, fun s => rfl, fun s =>
      acceptDone_acceptedAs (administrative_acted (undefineRegion_acted s p _))⟩
  | onlineRegion =>
    exact ⟨_, fun s => rfl, fun s =>
      acceptDone_acceptedAs (administrative_acted (onlineRegion_acted s p _))⟩
  | retireRegion =>
    exact ⟨_, fun s => rfl, fun s =>
      acceptDone_acceptedAs (administrative_acted (retireRequest_acted s p _))⟩
  | setQuota =>
    exact ⟨_, fun s => rfl, fun s => acceptDone_acceptedAs (administrative_acted (setQuota_acted s p _))⟩
  | setWeight =>
    exact ⟨_, fun s => rfl, fun s => acceptDone_acceptedAs (administrative_acted (setWeight_acted s p _))⟩
  | disablePort =>
    exact ⟨_, fun s => rfl, fun s =>
      acceptDone_acceptedAs (administrative_acted (disablePort_acted s p _))⟩
  | enablePort =>
    exact ⟨_, fun s => rfl, fun s => acceptDone_acceptedAs (administrative_acted (enablePort_acted s p _))⟩
  | evictPort =>
    exact ⟨_, fun s => rfl, fun s => acceptDone_acceptedAs (administrative_acted (evictPort_acted s p _))⟩

end Sys2Proof.Machine
end

