-- ==== Sys2Proof/Tests/Slice0.lean ====
section
/-! SUPPORT. Tests: ill-formed commands, bytes written out from the spec, one step of every command on small states, and
for every statement of the certificates a state and operands that meet its hypotheses. -/

namespace Sys2Proof.Tests

open Sys2Proof.Machine

set_option Elab.async false

/-! ### Small states and frames -/

/-- An Ordinary request frame in sequence on a link that has taken none. -/
def request (payload : List Byte) : RequestFrame :=
  { seq := 0, flags := 0, mark := 0x5A, byte6 := 0, byte7 := 0, payload := payload }

/-- The same as an Expedited frame. -/
def express (payload : List Byte) : RequestFrame :=
  { request payload with flags := 1 }

/-- A link that is UP and has nothing to send. -/
def upLink : LinkUnit := { LinkUnit.reset with state := .up }

/-- A port with its link UP, in this session state. -/
def portIn (state : SessionState) : PortState :=
  { PortState.reset with link := upLink, session := { PortController.reset with state := state } }

/-- A HELD frame. -/
def heldBy (holders : Nat) (p : Port) : FrameRecord :=
  { FrameRecord.absentRecord with state := .held, holders := holders, originator := some p }

/-- An unclaimed frame in a state. -/
def idleFrame (state : FrameState) : FrameRecord :=
  { FrameRecord.absentRecord with state := state }

/-- Frames 0 and 4 held once, frame 1 twice, frames 2 and 3 free, frame 5 under its last scrub operation; region 0 ONLINE,
region 1 DEFINED. -/
def smallPool : PoolManager :=
  { PoolManager.reset with
    regions := ((PoolManager.reset.regions.set 0
      { Region.emptySlot with state := .online, stop := some 256 }).set 1
      { Region.emptySlot with state := .defined, stop := some 512 })
    frames := [(0, heldBy 1 0), (1, heldBy 2 1), (2, idleFrame .free), (3, idleFrame .free),
      (4, heldBy 1 1), (5, idleFrame .scrubbing)]
    freeList := [2, 3]
    scrubQueue := [5]
    scrub := { head := some 5, done := 255, op := .presented 5 255 } }

/-- Ports 0 and 1 OPEN, port 2 CLOSED with its link UP, port 3 as after reset; port 0 holds the role, maps frame 0 at
page 0 (RW) and frame 1 at the last page (RO), and has offered frame 0 to port 1, which has offered frame 4 to it. -/
def small : State :=
  { State.reset with
    ports := #v[
      { portIn .opened with
        aperture :=
          { slots := [(0, Mapping.mk 0 .rw .allocated), (4095, Mapping.mk 1 .ro .accepted)]
            quota := 4 } },
      { portIn .opened with
        aperture :=
          { slots := [(0, Mapping.mk 1 .rw .allocated), (7, Mapping.mk 4 .rw .allocated)]
            quota := 1024 } },
      portIn .closed, PortState.reset]
    pool := smallPool
    share :=
      { offers := [Offer.mk 1 1 7 4 0 .ro 100000, Offer.mk 9 0 0 0 1 .rw 100000], nextNumber := 9,
        lifetime := 100 }
    role := .held 0 }

/-- The small state with port 0 changed. -/
def smallWith (f : PortState → PortState) : State := small.modPort 0 f

/-- The state a command leaves, if it answers a next state. -/
def result (c : Instr) (s : State) : Option State :=
  match exec c s with
  | .next t => some t
  | _ => none

/-- The result and payload of the youngest entry of a port after a command. -/
def answer (c : Instr) (s : State) (p : Port) : Option (Option ResultCode × Option ReplyPayload) :=
  ((result c s).bind fun t => (t.port p).requests.entries.getLast?).map fun e =>
    (e.result, e.payload)

/-- What the model's own acceptance condition says of a frame, as a computation. -/
theorem accepts_of {s : State} {p : Port} {k : RequestKind} {f : RequestFrame}
    (h : (!s.resetLow && (s.port p).link.state == .up && f.seq == (s.port p).link.expected &&
      (s.refusalOf p k f).isNone) = true) : s.Accepts p k f := by
  simp only [Bool.and_eq_true, Bool.not_eq_eq_eq_not, Bool.not_true, beq_iff_eq,
    Option.isNone_iff_eq_none] at h
  exact ⟨h.1.1.1, h.1.1.2, h.1.2, h.2⟩

/-! ### Ill-formed commands are refused -/

theorem test_wf_damaged_frame_must_fail_the_check :
    (Instr.damagedFrame 0 (frameBytes 0x22 1 0 2 0 0 [])).wf = false := by decide +kernel

theorem test_wf_unknown_kind_is_no_request_kind :
    (Instr.unknownRequestKind 0 0x20 (request [])).wf = false := by decide +kernel

theorem test_wf_unknown_kind_is_no_link_control :
    (Instr.unknownRequestKind 0 0x02 (request [])).wf = false := by decide +kernel

theorem test_wf_unknown_kind_payload_at_most_272 :
    (Instr.unknownRequestKind 0 0x7F (request (List.replicate 273 0))).wf = false := by
  decide +kernel

theorem test_wf_request_payload_at_most_272 :
    (Instr.write 0 (request (List.replicate 273 0))).wf = false := by decide +kernel

theorem test_wf_limit_row_is_that_of_its_selector :
    (Instr.setLimitOfferLife 0 (request [2, 1, 0])).wf = false ∧
    (Instr.setLimitHoldLimit 0 (request [1, 1, 0])).wf = false ∧
    (Instr.setLimitErrorLimit 0 (request [4, 1, 0])).wf = false ∧
    (Instr.setLimitReplayTimeout 0 (request [3, 1, 0])).wf = false := by decide +kernel

theorem test_wf_limit_payload_at_most_272 :
    (Instr.setLimitHoldLimit 0 (request (2 :: List.replicate 272 0))).wf = false := by
  decide +kernel

theorem test_wf_reports_are_one_to_eight :
    (Instr.readLinesCompletion []).wf = false ∧
    (Instr.writeLinesCompletion (List.replicate 9 .clean)).wf = false := by decide +kernel

theorem test_wf_unseen_error_has_the_bytes_of_a_line :
    (Instr.readLinesCompletion [.unseen [1, 2, 3]]).wf = false := by decide +kernel

theorem test_wf_offer_number_is_not_zero : (Instr.offerExpiry 0).wf = false := by decide +kernel

theorem test_wf_holds_of_good_commands :
    (Instr.read 0 (request [0, 0, 0, 0, 1, 0])).wf = true ∧
    (Instr.setLimitReplayTimeout 3 (request [4, 4, 0])).wf = true ∧
    (Instr.readLinesCompletion [.clean, .unseen (List.replicate 32 7)]).wf = true := by
  decide +kernel

/-! ### Bytes on the link -/

/-- R200 gives the check of the nine bytes 31h to 39h as 29B1h. -/
theorem test_check_of_31_to_39 :
    checkOf [0x31, 0x32, 0x33, 0x34, 0x35, 0x36, 0x37, 0x38, 0x39] = 0x29B1#16 := by decide +kernel

/-- The ALLOC of the worked example of Chapter 10: kind 30h, sequence 33, Ordinary, mark 45h, first page 3, count 2. -/
theorem test_wire_alloc_of_the_worked_example :
    commandOfWire 1 [0x30, 0x21, 0x00, 0x45, 0x03, 0x00, 0x00, 0x00, 0x03, 0x00, 0x02, 0xFE, 0x62] =
      .alloc 1
        { seq := 33, flags := 0, mark := 0x45, byte6 := 0, byte7 := 0, payload := [3, 0, 2] } := by
  decide +kernel

/-- The NOTICE of the worked example: kind 82h, sequence 18, OFFER_EXPIRED in byte 7, offer number 12. -/
theorem test_wire_notice_of_the_worked_example :
    LinkFrame.bytes
      { kind := 0x82, seq := 18, flags := 0, mark := 0, byte6 := 0, byte7 := 0x05, payload := [12] } =
      [0x82, 0x12, 0x00, 0x00, 0x01, 0x00, 0x00, 0x05, 0x0C, 0x9D, 0x47] := by decide +kernel

theorem test_wire_link_control_frames :
    commandOfWire 2 [0x01, 0, 0x02, 0, 0, 0, 0, 0, 0xAD, 0xFD] = .linkHello 2 true ∧
    commandOfWire 2 [0x02, 0, 0x04, 0, 0, 0, 0xFF, 0, 0xC6, 0xBB] = .linkAck 2 255 true := by
  decide +kernel

theorem test_wire_unknown_kind_and_set_limit :
    commandOfWire 3 [0x7F, 5, 1, 9, 0, 0, 0, 0, 0x8B, 0xCC] =
      .unknownRequestKind 3 0x7F { express [] with seq := 5, mark := 9 } ∧
    commandOfWire 0 [0x58, 0, 0, 0, 3, 0, 0, 0, 4, 100, 0, 0xC5, 0xA4] =
      .setLimitReplayTimeout 0 { request [4, 100, 0] with mark := 0 } := by decide +kernel

theorem test_wire_one_wrong_bit_is_a_damaged_frame :
    commandOfWire 0 [0x02, 0, 0x04, 0, 0, 0, 0xFE, 0, 0xC6, 0xBB] =
      .damagedFrame 0 [0x02, 0, 0x04, 0, 0, 0, 0xFE, 0, 0xC6, 0xBB] := by decide +kernel

/-- Every request is what its own bytes spell. -/
theorem test_wire_write_comes_back :
    (wireOfCommand (.write 1 (express [0, 1, 2, 3, 2, 0, 9, 8]))).map
      (fun x => commandOfWire x.1 x.2) = some (.write 1 (express [0, 1, 2, 3, 2, 0, 9, 8])) := by
  decide +kernel

/-! ### One step of every command: reset pins and links -/

theorem test_device_reset :
    (result .deviceReset small).map (fun t =>
      (t.resetLow, (t.port 0).link.state, t.share.offers, t.pool.freeList, t.role)) =
      some (true, .offline, [], [], .reserved 0) := by decide +kernel

theorem test_reset_release_samples_the_straps :
    (result (.resetRelease 2) { small with resetLow := true }).map (fun t => (t.resetLow, t.role)) =
      some (false, .reserved 2) := by decide +kernel

theorem test_commands_wait_for_the_release :
    (result (.claimAdmin 0 (request [])) { small with resetLow := true }).map State.role =
      some small.role := by decide +kernel

theorem test_lock_gained :
    (result (.receiverLockGained 3) small).map (fun t =>
      ((t.port 3).link.state, (t.port 3).link.helloPending, (t.port 3).link.helloTimer)) =
      some (.aligning, true, some 1000) := by decide +kernel

theorem test_lock_lost_ends_the_session :
    (result (.receiverLockLost 0) small).map (fun t =>
      (((t.port 0).link.state, (t.port 0).session.state, t.role), t.share.offers,
        (t.port 1).transmit.notices, t.mappedCount 0)) =
      some ((.offline, .closed, .vacant), [],
        [.offerDeclined 1 .targetGone, .offerWithdrawn 9 .offererGone, .adminChanged none], 0) := by
  decide +kernel

theorem test_damaged_frame_counts_and_saturates :
    (result (.damagedFrame 0 [1, 2]) small).map (fun t => (t.port 0).link.checkErrors) = some 1 ∧
    (result (.damagedFrame 0 []) (small.modLink 0 fun l => { l with checkErrors := 65535 })).map
      (fun t => (t.port 0).link.checkErrors) = some 65535 := by decide +kernel

theorem test_hello_with_seen_brings_the_link_up :
    (result (.linkHello 3 true) (small.modLink 3 fun l => l.startHello .answering 0)).map (fun t =>
      ((t.port 3).link.state, (t.port 3).link.pendingAck, (t.port 3).link.helloTimer)) =
      some (.up, some 255, none) := by decide +kernel

/-- A frame the P416 has sent with this sequence number. -/
def sentFrame (seq : Byte) : LinkFrame :=
  { kind := replyCode, seq := seq, flags := 0, mark := 0, byte6 := 0, byte7 := 0, payload := [] }

/-- Three frames await acknowledgement, 254, 255 and 0. -/
def unacknowledged : State :=
  small.modLink 0 fun l =>
    { l with
      replay := [sentFrame 254, sentFrame 255, sentFrame 0], nextOut := 1, replayTimer := some 10
      timeouts := 2 }

theorem test_ack_frees_through_its_value_and_sets_the_hold :
    (result (.linkAck 0 255 true) unacknowledged).map (fun t =>
      ((t.port 0).link.replay, (t.port 0).link.timeouts, (t.port 0).link.replayTimer,
        (t.port 0).transmit.hold, (t.port 0).transmit.holdTimer)) =
      some ([sentFrame 0], 0, some 4000, true, some 500000) := by decide +kernel

theorem test_nak_frees_before_its_value_and_retransmits :
    (result (.linkNak 0 255) unacknowledged).map (fun t =>
      ((t.port 0).link.replay, (t.port 0).link.retransmit)) =
      some ([sentFrame 255, sentFrame 0], some 255) := by decide +kernel

theorem test_nak_of_the_next_sequence_frees_everything :
    (result (.linkNak 0 1) unacknowledged).map (fun t =>
      ((t.port 0).link.replay, (t.port 0).link.retransmit, (t.port 0).link.replayTimer)) =
      some ([], none, none) := by decide +kernel

theorem test_unknown_kind_is_refused_malformed :
    (result (.unknownRequestKind 0 0x7F (express [])) small).map (fun t =>
      ((t.port 0).transmit.refusals, (t.port 0).link.expected, (t.port 0).link.pendingAck)) =
      some ([RefusalRecord.mk .malformed 0 0x5A .expedited], 1, some 0) := by decide +kernel

/-! ### One step of every command: requests -/

theorem test_open :
    (result (.openSession 2 (request [])) small).map (fun t =>
      ((t.port 2).session.state, (t.port 2).requests.nextOrdinary, (t.port 0).transmit.notices)) =
      some (.opened, 1, [.portState 2 .opened .opened]) := by decide +kernel

theorem test_open_takes_a_reserved_role :
    answer (.openSession 2 (request [])) { small with role := .reserved 2 } 2 =
      some (some .ok, some (.opened 2 true 1024 0)) := by decide +kernel

theorem test_close_is_done_with_no_older_entry :
    (result (.closeSession 0 (request [])) small).map (fun t =>
      ((t.port 0).session.state, (t.port 0).requests.entries.map Entry.state)) =
      some (.closing, [.done]) := by decide +kernel

theorem test_set_order :
    answer (.setOrder 0 (request [0, 16])) small 0 = some (some .ok, some (.order .arrival 16)) ∧
    answer (.setOrder 0 (request [0, 17])) small 0 = some (some .badValue, none) := by
  decide +kernel

/-- A READ of the last block of page 0 of port 0. -/
def lastBlock : Instr := .read 0 (request [0x00, 0xFF, 0, 0, 0, 1])

theorem test_read_is_translated_and_presented :
    (result lastBlock small).map (fun t =>
      ((t.port 0).requests.entries.map fun e => (e.state, e.translation), (t.frame 0).pins)) =
      some ([(.presented, some (Translation.mk 0 2040 8 65280 256))], 1) := by decide +kernel

theorem test_read_across_a_block_is_bounds :
    answer (.read 0 (express [0x01, 0xFF, 0, 0, 0, 1])) small 0 = some (some .bounds, none) := by
  decide +kernel

theorem test_write_reserves_its_lines :
    (result (.write 0 (request [31, 0, 0, 0, 2, 0, 0xAA, 0xBB])) small).map (fun t =>
      ((t.port 0).requests.reservedLines, (t.port 0).requests.entries.map Entry.writeData)) =
      some (2, [some [0xAA, 0xBB]]) := by decide +kernel

theorem test_write_to_a_read_only_page :
    answer (.write 0 (request [0, 0, 0xFF, 0x0F, 1, 0, 0xAA])) small 0 =
      some (some .faultRights, none) := by decide +kernel

theorem test_fence_waits_for_an_older_entry :
    (result (.fence 0 (request []))
      (smallWith fun q => { q with requests := { q.requests with
        entries := [{ small.newEntry 0 .read (request []) with state := .inMemory }] } })).map
      (fun t => (t.port 0).requests.entries.map Entry.state) = some [.inMemory, .waiting] := by
  decide +kernel

/-- In ANSWERING a number other than 0 is out of sequence, 255 too (R160). -/
theorem test_fence_that_brings_the_link_up_out_of_sequence :
    (result (.fence 3 { request [] with seq := 255 })
      (small.modLink 3 fun l => { l with state := .answering })).map (fun t =>
        let l := (t.port 3).link
        (l.state, l.pendingNak, l.nakFlag, l.pendingAck, l.expected)) =
      some (.up, some 0, true, some 255, 0) := by decide +kernel

theorem test_alloc_maps_the_head_of_the_free_list :
    (result (.alloc 0 (request [0xFE, 0x0F, 1])) small).map (fun t =>
      (t.slotAt 0 4094, t.pool.freeList, t.frame 2)) =
      some (some (Mapping.mk 2 .rw .allocated), [3], heldBy 1 0) := by decide +kernel

theorem test_alloc_past_the_last_page_and_beyond_the_quota :
    answer (.alloc 0 (request [0xFF, 0x0F, 2])) small 0 = some (some .bounds, none) ∧
    answer (.alloc 0 (request [1, 0, 3])) small 0 = some (some .quota, none) := by decide +kernel

theorem test_release_scrubs_the_frame_and_withdraws_its_offer :
    (result (.release 0 (request [0, 0, 1])) small).map (fun t =>
      ((t.slotAt 0 0, (t.frame 0).state, t.pool.scrubQueue), t.share.offers.map Offer.number,
        (t.port 1).transmit.notices)) =
      some ((none, .scrubbing, [5, 0]), [1], [.offerWithdrawn 9 .released]) := by decide +kernel

theorem test_offer_takes_a_free_number :
    (result (.offer 0 (request [0xFF, 0x0F, 1, 0]))
      (small.modAperture 1 fun a => { a with slots := [] })).map (fun t =>
      (t.share.offers.map Offer.number, t.share.nextNumber, (t.port 1).transmit.notices)) =
      some ([1, 9, 10], 11, [.offerReceived 10 0 .ro]) := by decide +kernel

theorem test_offer_of_a_read_only_page_for_writing :
    answer (.offer 0 (request [0xFF, 0x0F, 1, 1])) small 0 = some (some .rights, none) := by
  decide +kernel

theorem test_accept_maps_the_offered_frame :
    (result (.accept 0 (request [1, 5, 0])) small).map (fun t =>
      (t.slotAt 0 5, (t.frame 4).holders, t.share.offers.map Offer.number,
        (t.port 1).transmit.notices)) =
      some (some (Mapping.mk 4 .ro .accepted), 2, [9], [.offerTaken 1 5]) := by decide +kernel

theorem test_decline_and_withdraw :
    (result (.decline 0 (request [1])) small).map (fun t =>
      (t.share.offers.map Offer.number, (t.port 1).transmit.notices)) =
      some ([9], [.offerDeclined 1 .declined]) ∧
    (result (.withdraw 0 (request [9])) small).map (fun t =>
      (t.share.offers.map Offer.number, (t.port 1).transmit.notices)) =
      some ([1], [.offerWithdrawn 9 .withdrawn]) := by decide +kernel

theorem test_decline_of_an_offer_to_another_port :
    answer (.decline 1 (request [1])) small 1 = some (some .noOffer, none) ∧
    answer (.withdraw 1 (request [9])) small 1 = some (some .noOffer, none) := by decide +kernel

theorem test_query_port_is_25_bytes :
    (answer (.queryPort 0 (request [1])) small 0).map (fun x => x.2.map ReplyPayload.bytes) =
      some (some [1, 1, 0, 0, 2, 0, 3, 0, 0, 0, 4, 2, 0, 0, 0, 64, 1, 4, 1, 1, 100, 0, 0xF4, 1, 4]) := by
  decide +kernel

theorem test_query_page_is_19_bytes_when_mapped :
    (answer (.queryPage 0 (express [0, 0, 0, 0xFF, 0x0F])) small 0).map
      (fun x => x.2.map ReplyPayload.bytes) =
      some (some [0, 0xFF, 0x0F, 1, 2, 0, 4, 0, 1, 0, 0, 0, 0, 1, 3, 2, 0, 1, 0]) := by
  decide +kernel

theorem test_query_pool_is_51_bytes_with_two_regions :
    (answer (.queryPool 1 (express [])) small 1).map (fun x => x.2.map ReplyPayload.bytes) =
      some (some ([2, 0, 0, 0, 1, 0, 0, 0, 5, 0, 0, 0, 255, 16, 2] ++
        [0, 2, 0, 0, 0, 0, 0, 1, 0, 0, 0, 0, 0, 0, 0, 0, 0, 0] ++
        [1, 1, 0, 1, 0, 0, 0, 2, 0, 0, 0, 0, 0, 0, 0, 0, 0, 0])) := by decide +kernel

theorem test_query_frame_is_12_bytes :
    (answer (.queryFrame 0 (express [5, 0, 0, 0])) small 0).map (fun x => x.2.map ReplyPayload.bytes) =
      some (some [5, 0, 0, 0, 1, 0, 0, 0, 0xFF, 0, 255, 0]) := by decide +kernel

theorem test_claim_admin_when_vacant_and_when_held :
    answer (.claimAdmin 1 (request [])) { small with role := .vacant } 1 =
      some (some .ok, some (.holder 1)) ∧
    answer (.claimAdmin 1 (request [])) small 1 = some (some .adminHeld, none) := by decide +kernel

theorem test_hand_admin :
    (result (.handAdmin 0 (request [1])) small).map (fun t =>
      (t.role, (t.port 0).transmit.notices)) = some (.held 1, [.adminChanged (some 1)]) ∧
    answer (.handAdmin 0 (request [2])) small 0 = some (some .portClosed, none) := by decide +kernel

theorem test_define_region_takes_the_lowest_empty_slot :
    answer (.defineRegion 0 (request [0, 1, 0, 0])) small 0 =
      some (some .ok, some (.defined 2 512 768)) ∧
    answer (.defineRegion 0 (request [0, 0xFF, 3, 0])) small 0 = some (some .badValue, none) := by
  decide +kernel

theorem test_undefine_region_takes_the_highest :
    answer (.undefineRegion 0 (request [1])) small 0 = some (some .ok, some (.slot 1)) ∧
    answer (.undefineRegion 0 (request [0])) small 0 = some (some .regionState, none) := by
  decide +kernel

theorem test_online_region :
    (result (.onlineRegion 0 (request [1])) small).map (fun t =>
      ((t.region 1).state, t.pool.scrubQueue.length, (t.frame 511).state)) =
      some (.online, 257, .scrubbing) := by decide +kernel

theorem test_retire_region_drains :
    (result (.retireRegion 0 (request [0])) small).map (fun t =>
      ((t.region 0).state, (t.region 0).retired, t.pool.freeList, (t.frame 5).state,
        t.pool.scrub.op)) = some (.draining, 3, [], .retired, .idle) := by decide +kernel

theorem test_set_quota :
    answer (.setQuota 0 (request [1, 2, 0])) small 0 = some (some .ok, some (.quotaSet 1 2 2)) ∧
    answer (.setQuota 0 (request [1, 1, 0])) small 0 = some (some .quotaInUse, none) := by
  decide +kernel

theorem test_set_weight :
    answer (.setWeight 0 (request [4, 64])) small 0 = some (some .ok, some (.weightSet 4 64 8)) ∧
    answer (.setWeight 0 (request [5, 64])) small 0 = some (some .badValue, none) := by
  decide +kernel

theorem test_set_limits :
    (result (.setLimitOfferLife 0 (request [1, 0xE8, 3])) small).map (fun t => t.share.lifetime) =
      some 1000 ∧
    (result (.setLimitHoldLimit 0 (request [2, 1, 0])) small).map State.holdLimit = some 1 ∧
    (result (.setLimitErrorLimit 0 (request [3, 0, 0])) small).map (fun t => t.pool.errorThreshold) =
      some 0 ∧
    (result (.setLimitReplayTimeout 0 (request [4, 100, 0])) small).map State.replayTimeout =
      some 100 := by decide +kernel

theorem test_set_limits_out_of_range :
    answer (.setLimitOfferLife 0 (request [1, 0xE9, 3])) small 0 = some (some .badValue, none) ∧
    answer (.setLimitHoldLimit 0 (request [2, 0, 0])) small 0 = some (some .badValue, none) ∧
    answer (.setLimitErrorLimit 0 (request [3, 0, 1])) small 0 = some (some .badValue, none) ∧
    answer (.setLimitReplayTimeout 0 (request [4, 101, 0])) small 0 = some (some .badValue, none) := by
  decide +kernel

theorem test_disable_port_ends_its_session :
    (result (.disablePort 0 (request [1])) small).map (fun t =>
      ((t.port 1).session.state, (t.port 1).transmit.notices, t.pool.scrubQueue)) =
      some (.disabled, [.sessionEnded .disabled], [5, 4]) := by decide +kernel

theorem test_enable_port :
    (result (.enablePort 0 (request [3]))
      (small.modSession 3 fun c => { c with state := .disabled })).map (fun t =>
      ((t.port 3).session.state, (t.port 0).transmit.notices)) =
      some (.closed, [.portState 3 .closed .enabled]) := by decide +kernel

theorem test_evict_port :
    (result (.evictPort 0 (request [1])) small).map (fun t =>
      ((t.port 1).session.state, (t.port 1).transmit.notices)) =
      some (.closed, [.sessionEnded .evicted]) ∧
    answer (.evictPort 0 (request [2])) small 0 = some (some .portClosed, none) := by decide +kernel

/-! ### One step of every command: memory, transmission, timers -/

/-- The small state with an entry of port 0 on frame 0: two bytes across the first two lines. -/
def entryOn (kind : RequestKind) (state : EntryState) (data : Option (List Byte)) : Entry :=
  { small.newEntry 0 kind (request []) with
    state := state, translation := some (Translation.mk 0 0 2 31 2), writeData := data }

/-- The small state with that entry, a pinned frame 0, and its operation in flight if it is IN_MEMORY. -/
def withEntry (e : Entry) (d : Dram) : State :=
  { ((smallWith fun q => { q with requests :=
        { q.requests with entries := [e], reservedLines := if e.isWrite then 2 else 0 } }).setFrame 0
      { heldBy 1 0 with pins := 1 }) with
    inFlight := if e.inMem then e.operation 0 else none
    dram := d }

/-- Zeros in the first two lines of frame 0. -/
def zeroedDram : Dram := Dram.reset.zeroLines 0 2

theorem test_grant_takes_the_holder_first :
    (result .grant (withEntry (entryOn .read .presented none) zeroedDram)).map (fun t =>
      (t.inFlight, t.scheduler.turnLines, (t.port 0).requests.entries.map Entry.state)) =
      some (some (Operation.mk (.port 0) .readLines 0 0 2), 2, [.inMemory]) := by decide +kernel

theorem test_grant_passes_an_idle_holder :
    (result .grant small).map (fun t => (t.inFlight, t.scheduler.holder, t.pool.scrub.op)) =
      some (some (Operation.mk .scrubber .zeroLines 5 2040 8), .scrubber, .inMemory 5 255) := by
  decide +kernel

/-- What a READ of port 0 on the first two lines leaves: the bytes of its entry, its frame's pins, its region's count and
the flaws of the lines. -/
def readOutcome (t : State) : List (Option (List Byte)) × List Nat × List (Option LineFlaw) :=
  ((t.port 0).requests.entries.map Entry.readData, [(t.frame 0).pins, (t.region 0).corrected],
    [t.dram.flaw 0, t.dram.flaw 1])

/-- The line that needed correction keeps its error (R127): a later read without a new error corrects it again. -/
theorem test_read_completion_returns_the_bytes :
    (result (.readLinesCompletion [.corrected])
      (withEntry (entryOn .read .inMemory none) (zeroedDram.setByte 32 (some 7)))).map readOutcome =
      some ([some [0, 7]], [0, 1], [some .correctable, none]) ∧
    (result (.readLinesCompletion []) (withEntry (entryOn .read .inMemory none)
      ((zeroedDram.setByte 32 (some 7)).setFlaw 0 (some .correctable)))).map readOutcome =
      some ([some [0, 7]], [0, 1], [some .correctable, none]) := by
  constructor <;> decide +kernel

theorem test_uncorrectable_read_is_a_data_error :
    (result (.readLinesCompletion [.clean, .uncorrectable])
      (withEntry (entryOn .read .inMemory none) zeroedDram)).map (fun t =>
      ((t.port 0).requests.entries.map Entry.result, (t.frame 0).poisoned,
        (t.region 0).uncorrectable, (t.port 0).transmit.notices)) =
      some ([some .dataError], true, 1, [.framePoisoned 0 (some 0)]) := by decide +kernel

theorem test_write_completion_stores_the_bytes :
    (result (.writeLinesCompletion [])
      (withEntry (entryOn .write .inMemory (some [0xAA, 0xBB])) zeroedDram)).map (fun t =>
      ([30, 31, 32].map (Sparse.get t.dram.bytes), (t.port 0).requests.reservedLines,
        (t.port 0).requests.entries.map Entry.result)) =
      some ([some 0, some 0xAA, some 0xBB], 0, [some .ok]) := by decide +kernel

theorem test_partial_write_of_an_unreadable_line_marks_it :
    (result (.writeLinesCompletion [.clean, .uncorrectable])
      (withEntry (entryOn .write .inMemory (some [0xAA, 0xBB])) zeroedDram)).map (fun t =>
      (t.dram.flaw 0, t.dram.flaw 1, Sparse.get t.dram.bytes 32,
        Sparse.get t.dram.bytes 33)) = some (none, some .marker, some 0xBB, none) := by
  decide +kernel

/-- The Scrubber's last operation on frame 5 is in flight. -/
def scrubbing : State :=
  { small.modPool (fun q => { q with scrub := { q.scrub with op := .inMemory 5 255 } }) with
    inFlight := some (Operation.mk .scrubber .zeroLines 5 2040 8)
    dram := { Dram.reset with fitted := [(0, 12281)] } }

theorem test_last_zero_completion_frees_the_frame :
    (result .zeroLinesCompletion scrubbing).map (fun t =>
      (t.pool.freeList, t.pool.scrubQueue, (t.frame 5).state, t.pool.scrub)) =
      some ([2, 3, 5], [], .free, ScrubPosition.mk none 0 .idle) := by decide +kernel

theorem test_zero_completion_reaches_the_fitted_lines :
    (result .zeroLinesCompletion scrubbing).map (fun t =>
      (Sparse.get t.dram.bytes (12280 * 32), Sparse.get t.dram.bytes (12281 * 32))) =
      some (some 0, none) := by decide +kernel

/-- Port 0 with a DONE Ordinary CLAIM_ADMIN, number 6, and an OFFER_EXPIRED for offer 12. -/
def ready : State :=
  smallWith fun q =>
    { q with
      requests :=
        { q.requests with
          entries := [.answered .claimAdmin .ordinary 6 0x45 .ok (some (.holder 0))] }
      transmit := { q.transmit with notices := [.offerExpired 12], lost := 3 }
      link := { q.link with nextOut := 18 } }

theorem test_transmit_choice_sends_the_notice_first :
    (result (.transmitChoice 0) ready).map (fun t =>
      ((t.port 0).sent, (t.port 0).transmit.lost, (t.port 0).link.nextOut,
        (t.port 0).link.replay.length)) =
      some ([{ sentFrame 18 with kind := 0x82, mark := 3, byte7 := 5, payload := [12] }], 0, 19, 1) := by
  decide +kernel

theorem test_transmit_choice_sends_the_reply :
    (result (.transmitChoice 0) (ready.modTransmit 0 fun t => { t with notices := [] })).map (fun t =>
      ((t.port 0).sent, (t.port 0).requests.entries)) =
      some ([{ sentFrame 18 with mark := 0x45, byte6 := 6, payload := [0] }], []) := by
  decide +kernel

theorem test_retransmit_moves_on :
    (result (.retransmit 0) (unacknowledged.modLink 0 fun l =>
      { l with retransmit := some 255 })).map (fun t =>
      ((t.port 0).sent, (t.port 0).link.retransmit)) = some ([sentFrame 255], some 0) := by
  decide +kernel

theorem test_send_link_hello_carries_seen_in_answering :
    (result (.sendLinkHello 3) (small.modLink 3 fun l => l.startHello .answering 0)).map (fun t =>
      ((t.port 3).sent, (t.port 3).link.helloPending)) =
      some ([{ sentFrame 0 with kind := 1, flags := 2 }], false) := by decide +kernel

theorem test_send_link_nak_goes_before_the_ack :
    let s := small.modLink 0 fun l => { l with pendingNak := some 7, pendingAck := some 6 }
    (result (.sendLinkNak 0) s).map (fun t => ((t.port 0).sent, (t.port 0).link.pendingAck)) =
      some ([{ sentFrame 0 with kind := 3, byte6 := 7 }], some 6) ∧
    (result (.sendLinkAck 0) s).map (fun t => (t.port 0).sent) = some [] := by decide +kernel

theorem test_send_link_ack :
    (result (.sendLinkAck 0) (small.modLink 0 fun l => { l with pendingAck := some 6 })).map (fun t =>
      ((t.port 0).sent, (t.port 0).link.pendingAck)) =
      some ([{ sentFrame 0 with kind := 2, byte6 := 6 }], none) := by decide +kernel

theorem test_hello_timer_expiry :
    (result (.helloTimerExpiry 3) (small.modLink 3 fun l => { l with helloTimer := some 1000 })).map
      (fun t => (t.now, (t.port 3).link.helloPending, (t.port 3).link.helloTimer)) =
      some (1000, true, some 2000) := by decide +kernel

theorem test_replay_timer_expiry_resends :
    (result (.replayTimerExpiry 0) unacknowledged).map (fun t =>
      ((t.port 0).link.timeouts, (t.port 0).link.retransmit, (t.port 0).link.replayTimer)) =
      some (3, some 254, some 4010) := by decide +kernel

theorem test_fourth_replay_timer_expiry_is_link_loss :
    (result (.replayTimerExpiry 0) (unacknowledged.modLink 0 fun l =>
      { l with timeouts := 3 })).map (fun t =>
      ((t.port 0).link.state, (t.port 0).session.state, (t.port 0).session.cause)) =
      some (.aligning, .closed, some .linkLost) := by decide +kernel

theorem test_hold_timer_expiry_raises_hold_overdue :
    (result (.holdTimerExpiry 0) (small.modTransmit 0 fun t =>
      { t with hold := true, holdTimer := some 500 })).map (fun t =>
      ((t.port 0).transmit.notices, (t.port 0).transmit.overdueSent, (t.port 0).transmit.holdTimer)) =
      some ([.holdOverdue], true, none) := by decide +kernel

theorem test_offer_expiry_tells_both_parties :
    (result (.offerExpiry 9) small).map (fun t =>
      (t.now, t.share.offers.map Offer.number, (t.port 0).transmit.notices,
        (t.port 1).transmit.notices)) =
      some (100000, [1], [.offerExpired 9], [.offerExpired 9]) := by decide +kernel

/-! ### The queue -/

theorem test_step_takes_the_front :
    (match step { small with pending := [.grant, .deviceReset] } with
      | .next t => some (t.pending, t.inFlight.isSome)
      | _ => none) = some ([.deviceReset], true) := by decide +kernel

theorem test_table_words_spell_no_command : State.reset.withFetchWord 16 0x3031 = State.reset := by
  rfl

/-! ### States and operands that meet the hypotheses of the statements

One theorem for each statement that has hypotheses, named after it; each clause at a boundary value of its range. -/

/-- The small state with the link of port 3 in this state. -/
def linkIn (state : LinkState) : State := small.modLink 3 fun l => { l with state := state }

theorem test_witness_StepTakesFrontCommand : small.pending = [] := by decide

theorem test_witness_ResetValuesAndResetPins :
    (result .deviceReset small).map State.resetLow = some true ∧ small.resetLow = false ∧
    Instr.grant ≠ .deviceReset ∧ ∀ a, Instr.grant ≠ .resetRelease a := by
  refine ⟨?_, ?_, ?_, ?_⟩ <;> decide +kernel

/-- An entry with the bytes of a READ, one with a payload, and one with neither. -/
theorem test_witness_RepliesAndNoticesLaidOut :
    let read : Entry := { entryOn .read .done none with readData := some [0, 7] }
    let claim : Entry := .answered .claimAdmin .ordinary 6 0x45 .ok (some (.holder 0))
    let fence : Entry := .answered .fence .ordinary 7 0x45 .ok none
    read.readData = some [0, 7] ∧ (claim.readData = none ∧ claim.payload = some (.holder 0)) ∧
    fence.readData = none ∧ fence.payload = none := by decide

theorem test_witness_LockAndDamagedFrames :
    small.resetLow = false ∧ (small.port 3).link.state = .offline ∧
    ((linkIn .aligning).port 3).link.state = .aligning ∧
    ((linkIn .answering).port 3).link.state = .answering ∧ (small.port 0).link.state ≠ .offline ∧
    frameCheck [] = false ∧ frameCheck (List.replicate 9 0) = false := by decide +kernel

/-- Payload lengths of 272, of which the bytes are missing, and 273; a byte too many; link-control frames with and without
what R163 forbids. -/
theorem test_witness_LockAndDamagedFrames_check :
    frameCheck [0x21, 0, 0, 0, 0x10, 1, 0, 0, 0, 0] = false ∧
    frameCheck [0x21, 0, 0, 0, 0x11, 1, 0, 0, 0, 0] = false ∧
    frameCheck (frameBytes 0x22 0 0 0 0 0 []) = true ∧
    frameCheck (frameBytes 0x22 0 0 0 0 0 [] ++ [0]) = false ∧
    frameCheck (frameBytes 0x01 0 2 0 0 0 []) = true ∧
    frameCheck (frameBytes 0x02 0 2 0 0 0 []) = false ∧
    frameCheck (frameBytes 0x02 0 4 0 0 0 []) = true ∧
    frameCheck (frameBytes 0x03 0 4 0 0 0 []) = false ∧
    frameCheck (frameBytes 0x03 1 0 0 0 0 []) = false ∧
    frameCheck (frameBytes 0x01 0 0 0 0 0 [0]) = false := by decide +kernel

theorem test_witness_HelloInEachLinkState :
    (linkIn .answering).resetLow = false ∧ ((linkIn .offline).port 3).link.state = .offline ∧
    ((linkIn .aligning).port 3).link.state = .aligning ∧
    ((linkIn .answering).port 3).link.state = .answering ∧
    ((linkIn .up).port 3).link.state = .up := by decide +kernel

theorem test_witness_LinkLossClearsThePort :
    small.resetLow = false ∧ (small.port 0).link.state = .up ∧ small.inSession 0 = true ∧
    (small.port 0).session.disablePending = false ∧
    (small.port 2).link.state = .up ∧ small.inSession 2 = false ∧
    let s := unacknowledged.modLink 0 fun l => { l with timeouts := 3 }
    s.resetLow = false ∧ (s.port 0).link.state = .up ∧ s.inSession 0 = true ∧
    (s.port 0).session.disablePending = false ∧ (s.port 0).link.replayTimer = some 10 ∧
    (s.port 0).link.timeouts = 3 := by decide +kernel

theorem test_witness_AckFreesFramesAndCarriesHold :
    unacknowledged.resetLow = false ∧ (unacknowledged.port 0).link.state = .up ∧
    (unacknowledged.port 0).link.replay = [] ++ sentFrame 254 :: [sentFrame 255, sentFrame 0] ∧
    (unacknowledged.port 0).link.replay = [sentFrame 254, sentFrame 255] ++ sentFrame 0 :: [] ∧
    (sentFrame 0).seq = 0 ∧ (∀ g ∈ [sentFrame 254, sentFrame 255], g.seq ≠ 0) ∧
    (∀ g ∈ (unacknowledged.port 0).link.replay, g.seq ≠ 253) ∧
    ∀ g ∈ (small.port 0).link.replay, g.seq ≠ 0 := by decide +kernel

theorem test_witness_NakStartsRetransmission :
    unacknowledged.resetLow = false ∧ (unacknowledged.port 0).link.state = .up ∧
    (unacknowledged.port 0).link.replay = [] ++ sentFrame 254 :: [sentFrame 255, sentFrame 0] ∧
    (unacknowledged.port 0).link.replay = [sentFrame 254, sentFrame 255] ++ sentFrame 0 :: [] ∧
    (∀ g ∈ [sentFrame 254, sentFrame 255], g.seq ≠ (sentFrame 0).seq) ∧
    (∀ g ∈ (unacknowledged.port 0).link.replay, g.seq ≠ 1) ∧
    (unacknowledged.port 0).link.nextOut = 1 ∧
    (∀ g ∈ (unacknowledged.port 0).link.replay, g.seq ≠ 2) ∧
    (unacknowledged.port 0).link.nextOut ≠ 2 := by decide +kernel

/-- The classes at the ends of their ranges. -/
theorem test_witness_SequenceClasses :
    seqClass 5 5 = .inSequence ∧ seqClass 5 4 = .duplicate ∧ seqClass 5 134 = .duplicate ∧
    seqClass 5 133 = .outOfSequence ∧ seqClass 5 6 = .outOfSequence := by decide +kernel

theorem test_witness_FramesOutOfTurnAndBeforeUp :
    (Instr.fence 0 { request [] with seq := 255 }).sequenced =
      some (0, 0x22, { request [] with seq := 255 }) ∧
    small.resetLow = false ∧ (small.port 0).link.state = .up ∧
    seqClass (small.port 0).link.expected 255 = .duplicate ∧
    seqClass (small.port 0).link.expected 129 = .duplicate ∧
    seqClass (small.port 0).link.expected 128 = .outOfSequence ∧
    seqClass (small.port 0).link.expected 1 = .outOfSequence ∧
    ((linkIn .offline).port 3).link.state = .offline ∧
    ((linkIn .aligning).port 3).link.state = .aligning ∧
    ((linkIn .answering).port 3).link.state = .answering ∧
    (Instr.fence 3 (request [])).sequenced = some (3, 0x22, request []) ∧ (request []).seq = 0 ∧
    ({ request [] with seq := 1 } : RequestFrame).seq ≠ 0 ∧
    ({ request [] with seq := 129 } : RequestFrame).seq ≠ 0 ∧
    ({ request [] with seq := 255 } : RequestFrame).seq ≠ 0 := by decide +kernel

theorem test_witness_AcceptedFrameAcknowledged :
    small.Accepts 0 .fence (express []) ∧ small.Accepts 2 .openSession (request []) ∧
    small.Accepts 0 .write (request ([0, 0, 0, 0, 0, 1] ++ List.replicate 256 0)) :=
  ⟨accepts_of (by decide +kernel), accepts_of (by decide +kernel), accepts_of (by decide +kernel)⟩

/-- The small state with this many refusals queued on port 0. -/
def refusals (count : Nat) : State :=
  small.modTransmit 0 fun t =>
    { t with refusals := List.replicate count (RefusalRecord.mk .malformed 0 0 .ordinary) }

theorem test_witness_RefusedFrameQueuesARefusal :
    (refusals 7).resetLow = false ∧ ((refusals 7).port 0).link.state = .up ∧
    (request [1]).seq = ((refusals 7).port 0).link.expected ∧
    ((refusals 7).port 0).transmit.refusals.length < 8 ∧
    (refusals 7).refusalOf 0 .fence (request [1]) = some .malformed ∧
    (refusals 7).refusalOf 0 .openSession (request []) = some .alreadyOpen := by decide +kernel

theorem test_witness_FullRefusalQueueLeavesTheFrame :
    (refusals 8).resetLow = false ∧ ((refusals 8).port 0).link.state = .up ∧
    (request []).seq = ((refusals 8).port 0).link.expected ∧
    8 ≤ ((refusals 8).port 0).transmit.refusals.length ∧
    (refusals 8).refusalOf 0 .openSession (request []) ≠ none ∧
    (refusals 8).refusalOf 0 .fence (request []) = none := by decide +kernel

/-- The small state with this many DONE Ordinary entries on port 0, and reserved write lines. -/
def filled (entries lines : Nat) : State :=
  smallWith fun q =>
    { q with requests :=
        { q.requests with
          entries := List.replicate entries (Entry.answered .claimAdmin .ordinary 0 0 .ok none)
          reservedLines := lines } }

theorem test_witness_ChecksOfAcceptanceInOrder :
    wellFormedRequest .fence (request [1]) = false ∧
    wellFormedRequest .fence (request []) = true ∧
    wellFormedRequest .openSession (request []) = true ∧
    wellFormedRequest .claimAdmin (express []) = true ∧
    ((small.modSession 0 fun c => { c with state := .disabled }).port 0).session.state = .disabled ∧
    (small.port 2).session.state = .closed ∧
    ((small.modSession 0 fun c => { c with state := .teardown }).port 0).session.state = .teardown ∧
    ((small.modSession 0 fun c => { c with state := .closing }).port 0).session.state = .closing ∧
    (small.port 0).session.state = .opened ∧
    RequestKind.claimAdmin ∉ [RequestKind.read, .write, .fence, .queryPort, .queryPage, .queryPool,
      .queryFrame] ∧
    16 ≤ (((filled 16 0).port 0).requests.entries.filter fun e => e.cls == .ordinary).length ∧
    (((filled 15 0).port 0).requests.entries.filter fun e => e.cls == .ordinary).length < 16 := by
  decide +kernel

/-- Two lines with one free, and with two free. -/
theorem test_witness_ChecksOfAcceptanceInOrder_lines :
    wellFormedRequest .write (request [31, 0, 0, 0, 2, 0, 1, 2]) = true ∧
    field [31, 0, 0, 0, 2, 0, 1, 2] 0 4 = 31 ∧ field [31, 0, 0, 0, 2, 0, 1, 2] 4 2 = 2 ∧
    (31 + 2 - 1) / 32 - 31 / 32 + 1 = 2 ∧
    (filled 0 63).slotAt 0 0 = some (Mapping.mk 0 .rw .allocated) ∧
    64 - ((filled 0 63).port 0).requests.reservedLines < 2 ∧
    (filled 0 62).slotAt 0 0 = some (Mapping.mk 0 .rw .allocated) ∧
    ¬64 - ((filled 0 62).port 0).requests.reservedLines < 2 := by decide +kernel

/-- Lengths, addresses and counts at the ends of their ranges. -/
theorem test_witness_WellFormedRequests :
    wellFormedRequest .read (express [0xFF, 0xFF, 0xFF, 0x0F, 0, 1]) = true ∧
    wellFormedRequest .read (request [0, 0, 0, 0x10, 1, 0]) = false ∧
    wellFormedRequest .read (request [0, 0, 0, 0, 1, 1]) = false ∧
    wellFormedRequest .read (request [0, 0, 0, 0, 0, 0]) = false ∧
    wellFormedRequest .alloc (request [0, 0, 64]) = true ∧
    wellFormedRequest .alloc (request [0, 0, 65]) = false ∧
    wellFormedRequest .setLimit (request [5, 0, 0]) = false ∧
    wellFormedRequest .queryPage (request [0, 0, 0, 0, 0x10]) = false ∧
    wellFormedRequest .fence { request [] with flags := 2 } = false := by decide +kernel

theorem test_witness_AcceptedRequestNumbered :
    small.Accepts 0 .read (express [0, 0, 0, 0, 1, 0]) ∧ small.Accepts 0 .fence (request []) ∧
    RequestKind.fence ≠ .openSession ∧ (express []).flags = 1 ∧ (request []).flags = 0 :=
  ⟨accepts_of (by decide +kernel), accepts_of (by decide +kernel), by decide, by decide, by decide⟩

theorem test_witness_OpenStartsASession :
    small.Accepts 2 .openSession (request []) ∧ small.role = .held 0 ∧ small.inSession 0 = true ∧
    ({ small with role := .reserved 2 }).Accepts 2 .openSession (request []) ∧
    (small.port 2).requests.entries = [] :=
  ⟨accepts_of (by decide +kernel), by decide, by decide, accepts_of (by decide +kernel), rfl⟩

theorem test_witness_FenceAndCloseWaitForOlderEntries :
    small.Accepts 0 .fence (express []) ∧ small.Accepts 0 .closeSession (request []) ∧
    (∀ o ∈ (small.port 0).requests.entries, o.state = .done) ∧
    let s := withEntry (entryOn .read .presented none) zeroedDram
    s.Accepts 0 .fence (request []) ∧
    ¬∀ o ∈ (s.port 0).requests.entries, o.state = .done :=
  ⟨accepts_of (by decide +kernel), accepts_of (by decide +kernel), by decide +kernel,
    accepts_of (by decide +kernel), by decide +kernel⟩

/-- The barrier step on a DONE entry, a FENCE behind it and a FENCE behind a PENDING READ. -/
theorem test_witness_FenceAndCloseWaitForOlderEntries_step :
    (barrierStep true [Entry.answered .claimAdmin .ordinary 0 0 .ok none,
      small.newEntry 0 .fence (request []), entryOn .read .waiting none,
      small.newEntry 0 .fence (request [])]).map Entry.state = [.done, .done, .waiting, .waiting] := by
  decide +kernel

theorem test_witness_SetOrderSetsModeAndBurstLimit :
    small.Accepts 0 .setOrder (request [0, 1]) ∧ small.Accepts 0 .setOrder (request [1, 16]) ∧
    small.Accepts 0 .setOrder (request [1, 0]) ∧ small.Accepts 0 .setOrder (request [1, 17]) :=
  ⟨accepts_of (by decide +kernel), accepts_of (by decide +kernel), accepts_of (by decide +kernel),
    accepts_of (by decide +kernel)⟩

/-- Page 1 is EMPTY; 256 bytes from offset 0 lie in one block, and from offset 1 they do not. -/
theorem test_witness_ReadIsTranslatedOrFaults :
    small.Accepts 0 .read (request [0, 0, 1, 0, 1, 0]) ∧ small.slotAt 0 1 = none ∧
    small.Accepts 0 .read (request [0, 0, 0, 0, 0, 1]) ∧
    small.Accepts 0 .read (express [1, 0, 0, 0, 0, 1]) ∧
    small.slotAt 0 0 = some (Mapping.mk 0 .rw .allocated) ∧
    0 / 256 = (0 + 256 - 1) / 256 ∧ 1 / 256 ≠ (1 + 256 - 1) / 256 :=
  ⟨accepts_of (by decide +kernel), by decide +kernel, accepts_of (by decide +kernel),
    accepts_of (by decide +kernel), by decide +kernel, by decide, by decide⟩

theorem test_witness_WriteIsTranslatedOrFaults :
    small.Accepts 0 .write (request [0, 0, 1, 0, 1, 0, 9]) ∧ small.slotAt 0 1 = none ∧
    small.Accepts 0 .write (request [0, 0, 0xFF, 0x0F, 1, 0, 9]) ∧
    small.slotAt 0 4095 = some (Mapping.mk 1 .ro .accepted) ∧
    small.Accepts 0 .write (request [255, 0, 0, 0, 2, 0, 9, 8]) ∧
    small.Accepts 0 .write (request [254, 0, 0, 0, 2, 0, 9, 8]) ∧
    small.slotAt 0 0 = some (Mapping.mk 0 .rw .allocated) ∧
    255 / 256 ≠ (255 + 2 - 1) / 256 ∧ 254 / 256 = (254 + 2 - 1) / 256 :=
  ⟨accepts_of (by decide +kernel), by decide +kernel, accepts_of (by decide +kernel),
    by decide +kernel, accepts_of (by decide +kernel), accepts_of (by decide +kernel),
    by decide +kernel, by decide, by decide⟩

/-- The small state's stored data is in canonical form. -/
theorem small_canonical : small.Canonical :=
  ⟨by decide +kernel, by decide +kernel, by decide +kernel, by decide +kernel, by decide +kernel⟩

/-- Pages 4094 and 4095, then 4095 and 4096; a used page; a quota of 4 with 2 mapped; 2 frames free. -/
theorem test_witness_AllocMapsTheHeadOfTheFreeList :
    small.Canonical ∧ small.pool.freeList.Nodup ∧
    small.Accepts 0 .alloc (request [0xFF, 0x0F, 2]) ∧ 4096 < 4095 + 2 ∧
    small.Accepts 0 .alloc (request [0xFE, 0x0F, 2]) ∧
    (∃ g, 4094 ≤ g ∧ g < 4094 + 2 ∧ small.slotAt 0 g ≠ none) ∧
    small.Accepts 0 .alloc (request [1, 0, 3]) ∧ small.Accepts 0 .alloc (request [1, 0, 2]) ∧
    (small.port 0).aperture.quota < small.mappedCount 0 + 3 ∧
    ¬(small.port 0).aperture.quota < small.mappedCount 0 + 2 ∧
    ¬small.pool.freeList.length < 2 ∧
    small.Accepts 1 .alloc (request [1, 0, 3]) ∧ small.pool.freeList.length < 3 ∧
    (∀ g < 4, ¬(1 ≤ g ∧ small.slotAt 0 g ≠ none)) ∧
    ¬(small.port 1).aperture.quota < small.mappedCount 1 + 3 :=
  ⟨small_canonical, by decide, accepts_of (by decide +kernel), by decide,
    accepts_of (by decide +kernel), ⟨4095, by decide +kernel⟩, accepts_of (by decide +kernel),
    accepts_of (by decide +kernel), by decide +kernel, by decide +kernel, by decide +kernel,
    accepts_of (by decide +kernel), by decide +kernel, by decide +kernel, by decide +kernel⟩

/-- A page with an offer, the last page, and an EMPTY one. -/
theorem test_witness_ReleaseEmptiesThePages :
    small.slotAt 0 0 = some (Mapping.mk 0 .rw .allocated) ∧
    small.share.offers.filter (fun o => o.offering == 0 && o.page == 0) ≠ [] ∧
    small.Canonical ∧ small.Accepts 0 .release (request [0xFF, 0x0F, 2]) ∧
    small.Accepts 0 .release (request [0, 0, 2]) ∧ small.slotAt 0 1 = none ∧
    small.Accepts 0 .release (request [0xFF, 0x0F, 1]) ∧ small.slotAt 0 4095 ≠ none ∧
    (∀ g, 4095 ≤ g → g < 4095 + 1 → small.slotAt 0 g ≠ none) :=
  ⟨by decide +kernel, by decide +kernel, small_canonical, accepts_of (by decide +kernel),
    accepts_of (by decide +kernel), by decide +kernel, accepts_of (by decide +kernel),
    by decide +kernel, fun g h1 h2 => by
      obtain rfl : g = 4095 := by omega
      decide +kernel⟩

/-- The small state in which port 1 maps nothing and there are this many offers, none of frame 1. -/
def offersMade (count : Nat) : State :=
  { small.modAperture 1 fun a => { a with slots := [] } with
    share :=
      { small.share with
        offers := (List.range count).map fun i =>
          Offer.mk (BitVec.ofNat 8 (i + 1)) 0 0 0 2 .rw 5 } }

theorem test_witness_OfferChecksAndCreatesARecord :
    small.Accepts 0 .offer (request [0x00, 0x10, 1, 0]) ∧
    small.Accepts 0 .offer (request [0xFF, 0x0F, 4, 0]) ∧
    small.Accepts 0 .offer (request [0xFF, 0x0F, 0, 0]) ∧
    small.Accepts 0 .offer (request [1, 0, 1, 0]) ∧ small.slotAt 0 1 = none ∧
    small.Accepts 0 .offer (request [0xFF, 0x0F, 1, 1]) ∧
    small.slotAt 0 4095 = some (Mapping.mk 1 .ro .accepted) ∧
    small.Accepts 0 .offer (request [0xFF, 0x0F, 2, 0]) ∧ (small.port 2).session.state ≠ .opened ∧
    small.Accepts 0 .offer (request [0xFF, 0x0F, 1, 0]) ∧ small.maps 1 1 = true ∧
    small.Accepts 0 .offer (request [0, 0, 1, 0]) ∧ small.maps 1 0 = false ∧
    (∃ o ∈ small.share.offers, o.frame = 0 ∧ o.target = 1) :=
  ⟨accepts_of (by decide +kernel), accepts_of (by decide +kernel), accepts_of (by decide +kernel),
    accepts_of (by decide +kernel), by decide +kernel, accepts_of (by decide +kernel),
    by decide +kernel, accepts_of (by decide +kernel), by decide +kernel,
    accepts_of (by decide +kernel), by decide +kernel, accepts_of (by decide +kernel),
    by decide +kernel, by decide +kernel⟩

theorem test_witness_OfferChecksAndCreatesARecord_places :
    (offersMade 16).Accepts 0 .offer (request [0xFF, 0x0F, 1, 0]) ∧
    (offersMade 15).Accepts 0 .offer (request [0xFF, 0x0F, 1, 0]) ∧
    ((offersMade 16).port 1).session.state = .opened ∧ (offersMade 16).maps 1 1 = false ∧
    (∀ o ∈ (offersMade 16).share.offers, ¬(o.frame = 1 ∧ o.target = 1)) ∧
    16 ≤ (offersMade 16).share.offers.length ∧ (offersMade 15).share.offers.length < 16 ∧
    (offersMade 15).share.nextNumber = 9 ∧
    (∀ i < 7, ∃ o ∈ (offersMade 15).share.offers, o.number = BitVec.ofNat 8 ((9 - 1 + i) % 255 + 1)) ∧
    ∀ o ∈ (offersMade 15).share.offers, o.number ≠ 16 :=
  ⟨accepts_of (by decide +kernel), accepts_of (by decide +kernel), by decide +kernel,
    by decide +kernel, by decide +kernel, by decide +kernel, by decide +kernel, by decide +kernel,
    by decide +kernel, by decide +kernel⟩

theorem test_witness_AcceptMapsTheOfferedFrame :
    small.Accepts 0 .accept (request [9, 5, 0]) ∧
    (∀ o ∈ small.share.offers, ¬(o.number = 9 ∧ o.target = 0)) ∧
    small.share.offers.find? (fun o => o.number == 1 && o.target == 0) =
      some (Offer.mk 1 1 7 4 0 .ro 100000) ∧
    small.Accepts 0 .accept (request [1, 0, 0x10]) ∧
    small.Accepts 0 .accept (request [1, 0xFF, 0x0F]) ∧ small.slotAt 0 4095 ≠ none ∧
    small.Accepts 0 .accept (request [1, 0xFE, 0x0F]) ∧ small.slotAt 0 4094 = none ∧
    small.mappedCount 0 + 1 ≤ (small.port 0).aperture.quota ∧
    let s := small.modAperture 0 fun a => { a with quota := 2 }
    s.Accepts 0 .accept (request [1, 5, 0]) ∧ s.slotAt 0 5 = none ∧
    (s.port 0).aperture.quota < s.mappedCount 0 + 1 :=
  ⟨accepts_of (by decide +kernel), by decide +kernel, by decide +kernel,
    accepts_of (by decide +kernel), accepts_of (by decide +kernel), by decide +kernel,
    accepts_of (by decide +kernel), by decide +kernel, by decide +kernel,
    accepts_of (by decide +kernel), by decide +kernel, by decide +kernel⟩

theorem test_witness_DeclineAndWithdrawRemoveTheRecord :
    small.Accepts 0 .decline (request [9]) ∧
    (∀ o ∈ small.share.offers, ¬(o.number = 9 ∧ o.target = 0)) ∧
    small.Accepts 0 .decline (request [1]) ∧
    small.share.offers.find? (fun o => o.number == 1 && o.target == 0) =
      some (Offer.mk 1 1 7 4 0 .ro 100000) ∧
    small.Accepts 0 .withdraw (request [1]) ∧
    (∀ o ∈ small.share.offers, ¬(o.number = 1 ∧ o.offering = 0)) ∧
    small.Accepts 0 .withdraw (request [9]) ∧
    small.share.offers.find? (fun o => o.number == 9 && o.offering == 0) =
      some (Offer.mk 9 0 0 0 1 .rw 100000) :=
  ⟨accepts_of (by decide +kernel), by decide +kernel, accepts_of (by decide +kernel),
    by decide +kernel, accepts_of (by decide +kernel), by decide +kernel,
    accepts_of (by decide +kernel), by decide +kernel⟩

theorem test_witness_QueriesReportASnapshot :
    small.Accepts 0 .queryPort (request [3]) ∧ small.Accepts 1 .queryPort (express [1]) ∧
    small.Accepts 0 .queryPort (request [4]) ∧
    small.Accepts 0 .queryPage (request [3, 0xFF, 0xFF, 0xFF, 0x0F]) ∧
    small.Accepts 0 .queryPage (request [4, 0, 0, 0, 0]) ∧
    small.Accepts 1 .queryPool (express []) ∧
    small.Accepts 0 .queryFrame (request [0, 0, 4, 0]) ∧
    small.Accepts 0 .queryFrame (express [0xFF, 0xFF, 3, 0]) ∧ small.role = .held 0 ∧
    field [0, 0, 4, 0] 0 4 = 262144 :=
  ⟨accepts_of (by decide +kernel), accepts_of (by decide +kernel), accepts_of (by decide +kernel),
    accepts_of (by decide +kernel), accepts_of (by decide +kernel), accepts_of (by decide +kernel),
    accepts_of (by decide +kernel), accepts_of (by decide +kernel), by decide, by decide⟩

theorem test_witness_AdministrativeRequestsNeedTheRole :
    small.role ≠ .held 1 ∧ small.Accepts 1 .evictPort (request [0]) ∧
    small.Accepts 1 .setLimit (request [4, 1, 0]) ∧
    small.Accepts 1 .queryFrame (express [0, 0, 0, 0]) ∧
    small.Accepts 1 .queryPort (request [0]) ∧ field [(0 : Byte)] 0 1 = (0 : Port).val ∧
    small.Accepts 1 .queryPage (request [3, 0, 0, 0, 0]) :=
  ⟨by decide, accepts_of (by decide +kernel), accepts_of (by decide +kernel),
    accepts_of (by decide +kernel), accepts_of (by decide +kernel), by decide,
    accepts_of (by decide +kernel)⟩

theorem test_witness_ClaimAdminTakesAVacantRole :
    ({ small with role := .vacant }).Accepts 1 .claimAdmin (request []) ∧
    small.Accepts 0 .claimAdmin (request []) ∧ small.role = .held 0 ∧
    small.Accepts 1 .claimAdmin (request []) ∧
    ({ small with role := .reserved 1 }).Accepts 1 .claimAdmin (request []) :=
  ⟨accepts_of (by decide +kernel), accepts_of (by decide +kernel), by decide,
    accepts_of (by decide +kernel), accepts_of (by decide +kernel)⟩

theorem test_witness_HandAdminPassesTheRoleOn :
    small.role = .held 0 ∧ small.Accepts 0 .handAdmin (request [4]) ∧
    small.Accepts 0 .handAdmin (request [0]) ∧ small.Accepts 0 .handAdmin (request [3]) ∧
    (small.port 3).session.state ≠ .opened ∧ small.Accepts 0 .handAdmin (request [1]) ∧
    (small.port 1).session.state = .opened :=
  ⟨by decide, accepts_of (by decide +kernel), accepts_of (by decide +kernel),
    accepts_of (by decide +kernel), by decide +kernel, accepts_of (by decide +kernel),
    by decide +kernel⟩

/-- The small state with every region slot in use, the last one ending at this frame. -/
def allRegions (stop : Nat) : State :=
  small.modPool fun q =>
    { q with regions := Vector.ofFn fun k =>
        { Region.emptySlot with
          state := .defined
          stop := some (if k.val = 7 then stop else (k.val + 1) * 256) } }

/-- Sizes 0, 256, 262144 and 262400; 512 frames are in the pool already. -/
theorem test_witness_DefineAndUndefineRegion :
    small.role = .held 0 ∧ small.Accepts 0 .defineRegion (request [0, 0, 0, 0]) ∧
    small.Accepts 0 .defineRegion (request [0, 1, 4, 0]) ∧
    small.Accepts 0 .defineRegion (request [0, 0, 4, 0]) ∧ 262144 < small.poolSize + 262144 ∧
    small.Accepts 0 .defineRegion (request [0, 0xFE, 3, 0]) ∧
    small.poolSize + field [0, 0xFE, 3, 0] 0 4 = 262144 ∧ (small.region 2).state = .empty ∧
    (∀ j : Slot, j < 2 → (small.region j).state ≠ .empty) ∧
    (allRegions 2048).Accepts 0 .defineRegion (request [0, 1, 0, 0]) ∧
    (∀ k, ((allRegions 2048).region k).state ≠ .empty) ∧
    small.Accepts 0 .undefineRegion (request [8]) ∧
    small.Accepts 0 .undefineRegion (request [7]) ∧ (small.region 7).state ≠ .defined ∧
    small.Accepts 0 .undefineRegion (request [1]) ∧ (small.region 1).state = .defined ∧
    (∀ j : Slot, 1 < j → (small.region j).state = .empty) :=
  ⟨by decide, accepts_of (by decide +kernel), accepts_of (by decide +kernel),
    accepts_of (by decide +kernel), by decide +kernel, accepts_of (by decide +kernel),
    by decide +kernel, by decide +kernel, by decide +kernel, accepts_of (by decide +kernel),
    by decide +kernel, accepts_of (by decide +kernel), accepts_of (by decide +kernel),
    by decide +kernel, accepts_of (by decide +kernel), by decide +kernel, by decide +kernel⟩

/-- The end of a slot, the highest slot in use, and a table with none. -/
theorem test_witness_DefineAndUndefineRegion_spans :
    (small.region 0).stop = some 256 ∧ (small.region 1).state ≠ .empty ∧
    (∀ j : Slot, 1 < j → (small.region j).state = .empty) ∧
    (∀ k : Slot, (State.reset.region k).state = .empty) ∧ (1 : Slot).val = (0 : Slot).val + 1 ∧
    small.regionSlot 511 = some 1 ∧ small.regionSlot 512 = none := by decide +kernel

theorem test_witness_OnlineRegionQueuesItsFrames :
    small.role = .held 0 ∧ small.Canonical ∧ small.Accepts 0 .onlineRegion (request [8]) ∧
    small.Accepts 0 .onlineRegion (request [7]) ∧ (small.region 7).state ≠ .defined ∧
    small.Accepts 0 .onlineRegion (request [1]) ∧ (small.region 1).state = .defined :=
  ⟨by decide, small_canonical, accepts_of (by decide +kernel), accepts_of (by decide +kernel),
    by decide +kernel, accepts_of (by decide +kernel), by decide +kernel⟩

theorem test_witness_RetireRegionDrains :
    small.role = .held 0 ∧ small.Canonical ∧ small.Accepts 0 .retireRegion (request [8]) ∧
    small.Accepts 0 .retireRegion (request [7]) ∧ (small.region 7).state ≠ .online ∧
    small.Accepts 0 .retireRegion (request [0]) ∧ (small.region 0).state = .online :=
  ⟨by decide, small_canonical, accepts_of (by decide +kernel), accepts_of (by decide +kernel),
    by decide +kernel, accepts_of (by decide +kernel), by decide +kernel⟩

/-- Port 4, a quota of 4097, one below the mapped count of 2, and equal to it. -/
theorem test_witness_SetQuotaSetsTheNamedPort :
    small.role = .held 0 ∧ small.Accepts 0 .setQuota (request [4, 0, 0]) ∧
    small.Accepts 0 .setQuota (request [1, 1, 0x10]) ∧ field [1, 1, 0x10] 1 2 = 4097 ∧
    small.Accepts 0 .setQuota (request [1, 1, 0]) ∧ 1 < small.mappedCount 1 ∧
    small.Accepts 0 .setQuota (request [1, 2, 0]) ∧ small.mappedCount 1 ≤ 2 :=
  ⟨by decide, accepts_of (by decide +kernel), accepts_of (by decide +kernel), by decide,
    accepts_of (by decide +kernel), by decide +kernel, accepts_of (by decide +kernel),
    by decide +kernel⟩

theorem test_witness_SetWeightSetsTheParticipant :
    small.role = .held 0 ∧ small.Accepts 0 .setWeight (request [5, 1]) ∧
    small.Accepts 0 .setWeight (request [0, 0]) ∧ small.Accepts 0 .setWeight (request [0, 65]) ∧
    small.Accepts 0 .setWeight (request [4, 64]) ∧ 4 = Participant.scrubber.index.val ∧
    small.Accepts 0 .setWeight (request [3, 1]) ∧ 3 = (Participant.port 3).index.val :=
  ⟨by decide, accepts_of (by decide +kernel), accepts_of (by decide +kernel),
    accepts_of (by decide +kernel), accepts_of (by decide +kernel), by decide,
    accepts_of (by decide +kernel), by decide⟩

theorem test_witness_SetLimitSetsTheSelectedLimit :
    small.role = .held 0 ∧ small.Accepts 0 .setLimit (request [1, 0xE8, 3]) ∧
    small.Accepts 0 .setLimit (request [2, 1, 0]) ∧ small.Accepts 0 .setLimit (request [3, 0, 1]) ∧
    small.Accepts 0 .setLimit (request [4, 101, 0]) ∧ field [1, 0xE8, 3] 0 1 = 1 ∧
    field [2, 1, 0] 0 1 = 2 ∧ field [3, 0, 1] 0 1 = 3 ∧ field [4, 101, 0] 0 1 = 4 :=
  ⟨by decide, accepts_of (by decide +kernel), accepts_of (by decide +kernel),
    accepts_of (by decide +kernel), accepts_of (by decide +kernel),
    by decide, by decide, by decide, by decide⟩

theorem test_witness_DisableEnableAndEvictPort :
    small.role = .held 0 ∧ small.Accepts 0 .disablePort (request [4]) ∧
    small.Accepts 0 .disablePort (request [0]) ∧ small.Accepts 0 .disablePort (request [3]) ∧
    (small.port 3).session.state = .closed ∧ small.Accepts 0 .disablePort (request [1]) ∧
    small.inSession 1 = true ∧ small.Accepts 0 .enablePort (request [4]) ∧
    small.Accepts 0 .enablePort (request [3]) ∧ (small.port 3).session.state ≠ .disabled ∧
    small.Accepts 0 .evictPort (request [4]) ∧ small.Accepts 0 .evictPort (request [0]) ∧
    small.Accepts 0 .evictPort (request [3]) ∧ small.inSession 3 = false ∧
    small.Accepts 0 .evictPort (request [1]) :=
  ⟨by decide, accepts_of (by decide +kernel), accepts_of (by decide +kernel),
    accepts_of (by decide +kernel), by decide +kernel, accepts_of (by decide +kernel),
    by decide +kernel, accepts_of (by decide +kernel), accepts_of (by decide +kernel),
    by decide +kernel, accepts_of (by decide +kernel), accepts_of (by decide +kernel),
    accepts_of (by decide +kernel), by decide +kernel, accepts_of (by decide +kernel)⟩

/-- The small state with the session of port 3 in this state. -/
def sessionIn (state : SessionState) : State := small.modSession 3 fun c => { c with state := state }

theorem test_witness_DisableEnableAndEvictPort_states :
    (sessionIn .teardown).role = .held 0 ∧
    (sessionIn .teardown).Accepts 0 .disablePort (request [3]) ∧
    ((sessionIn .teardown).port 3).session.state = .teardown ∧
    (sessionIn .disabled).Accepts 0 .disablePort (request [3]) ∧
    (sessionIn .disabled).Accepts 0 .enablePort (request [3]) ∧
    ((sessionIn .disabled).port 3).session.state = .disabled :=
  ⟨by decide, accepts_of (by decide +kernel), by decide +kernel, accepts_of (by decide +kernel),
    accepts_of (by decide +kernel), by decide +kernel⟩

/-- Port 0 in session with an entry IN_MEMORY and without; then a teardown that was started by an eviction. -/
theorem test_witness_TeardownEndsTheSession :
    small.inSession 0 = true ∧ small.Canonical ∧
    (small.port 0).requests.entries.filter (fun e => e.state == .inMemory) = [] ∧
    let s := withEntry (entryOn .read .inMemory none) zeroedDram
    s.inSession 0 = true ∧ s.Canonical ∧
    (s.port 0).requests.entries.filter (fun e => e.state == .inMemory) ≠ [] :=
  ⟨by decide, small_canonical, by decide +kernel, by decide +kernel,
    ⟨by decide +kernel, by decide +kernel, by decide +kernel, by decide +kernel, by decide +kernel⟩,
    by decide +kernel⟩

/-- The small state with this many notices queued on port 0, and this many lost. -/
def noticed (count lost : Nat) : State :=
  small.modTransmit 0 fun t => { t with notices := List.replicate count .holdOverdue, lost := lost }

theorem test_witness_NoticeEntryRule :
    small.inSession 2 = false ∧ (noticed 15 0).inSession 0 = true ∧
    ((noticed 15 0).port 0).transmit.notices.length < 16 ∧ (noticed 16 255).inSession 0 = true ∧
    16 ≤ ((noticed 16 255).port 0).transmit.notices.length ∧ small.role = .held 0 ∧
    (∀ p, ({ small with role := .vacant }).role ≠ .held p) ∧
    ∀ p, ({ small with role := .reserved 0 }).role ≠ .held p := by decide +kernel

/-- The small state with the record of frame 0 changed. -/
def frameZero (f : FrameRecord → FrameRecord) : State := small.setFrame 0 (f (heldBy 1 0))

theorem frameZero_canonical_pinned :
    (frameZero fun r => { r with pins := 1 }).Canonical ∧
    (frameZero fun r => { r with state := .parked, holders := 0, pins := 2 }).Canonical ∧
    (frameZero fun r => { r with state := .parked, holders := 0, pins := 1 }).Canonical := by
  refine ⟨⟨?_, ?_, ?_, ?_, ?_⟩, ⟨?_, ?_, ?_, ?_, ?_⟩, ⟨?_, ?_, ?_, ?_, ?_⟩⟩ <;> decide +kernel

/-- Two holders; one and a pin; one and none; parked with two pins and with one. -/
theorem test_witness_ClaimsSettleTheFrame :
    small.Canonical ∧ (small.frame 1).state = .held ∧ 2 ≤ (small.frame 1).holders ∧
    (small.frame 0).state = .held ∧ (small.frame 0).holders = 1 ∧ (small.frame 0).pins = 0 ∧
    (small.frame 0).poisoned = false ∧ small.regionIs 0 .draining = false ∧
    (let s := frameZero fun r => { r with pins := 1 }
    (s.frame 0).state = .held ∧ (s.frame 0).holders = 1 ∧ 1 ≤ (s.frame 0).pins) ∧
    (let s := frameZero fun r => { r with state := .parked, holders := 0, pins := 2 }
    (s.frame 0).state = .parked ∧ (s.frame 0).holders = 0 ∧ 2 ≤ (s.frame 0).pins) ∧
    (let s := frameZero fun r => { r with state := .parked, holders := 0, pins := 1 }
    (s.frame 0).state = .parked ∧ (s.frame 0).holders = 0 ∧ (s.frame 0).pins = 1) :=
  ⟨small_canonical, by decide +kernel⟩

/-- A poisoned frame, and a frame of a DRAINING region. -/
theorem test_witness_ClaimsSettleTheFrame_retired :
    let s := frameZero fun r => { r with poisoned := true }
    let d := small.modRegion 0 fun r => { r with state := .draining }
    (s.Canonical ∧ (s.frame 0).state = .held ∧ (s.frame 0).holders = 1 ∧ (s.frame 0).pins = 0 ∧
      (s.frame 0).poisoned = true ∧ s.regionSlot 0 = some 0 ∧ (s.region 0).state ≠ .draining) ∧
    d.Canonical ∧ (d.frame 0).state = .held ∧ (d.frame 0).holders = 1 ∧ (d.frame 0).pins = 0 ∧
      d.regionIs 0 .draining = true ∧ d.regionSlot 0 = some 0 := by
  refine ⟨⟨⟨?_, ?_, ?_, ?_, ?_⟩, ?_⟩, ⟨?_, ?_, ?_, ?_, ?_⟩, ?_⟩ <;> decide +kernel

/-- A region's uncorrectable count at 15 with the threshold at 16, at 14, and at 255; a frame outside every region. -/
theorem test_witness_ReadErrorsAreAccounted :
    (let s := small.modRegion 0 fun r => { r with uncorrectable := 15 }
    s.regionSlot 0 = some 0 ∧ (s.region 0).uncorrectable < 255 ∧
      ((s.region 0).uncorrectable + 1 = s.pool.errorThreshold ∧ s.pool.errorThreshold ≠ 0 ∧
        (s.region 0).state = .online)) ∧
    (let s := small.modRegion 0 fun r => { r with uncorrectable := 14 }
    s.regionSlot 0 = some 0 ∧ (s.region 0).uncorrectable < 255 ∧
      ¬((s.region 0).uncorrectable + 1 = s.pool.errorThreshold ∧ s.pool.errorThreshold ≠ 0 ∧
        (s.region 0).state = .online)) ∧
    (let s := small.modRegion 0 fun r => { r with uncorrectable := 255 }
    s.regionSlot 255 = some 0 ∧ 255 ≤ (s.region 0).uncorrectable) ∧
    small.regionSlot 512 = none := by decide +kernel

/-- A Request Unit with these entries, in PRIORITY mode. -/
def unitWith (entries : List Entry) : RequestUnit := { RequestUnit.reset with entries := entries }

/-- An entry of one class alone on the list is its only candidate. -/
theorem only_entry {e : Entry} {older younger : List Entry} {x : Entry}
    (h : [e] = older ++ x :: younger) : x = e := by
  have : x ∈ [e] := by rw [h]; simp
  simpa using this

theorem test_witness_PresentationFollowsTheOrderingRules_none :
    SessionState.opened ≠ .teardown ∧ (∀ e ∈ (unitWith []).entries, e.state ≠ .presented) ∧
    (∀ older e younger, (unitWith []).entries ≠ older ++ e :: younger) ∧
    ∃ e ∈ (unitWith [entryOn .read .presented none]).entries, e.state = .presented :=
  ⟨by decide, by decide, fun older e younger h => by simp [unitWith] at h, by decide⟩

/-- An Expedited READ alone; an Ordinary READ alone, which leaves no Expedited candidate. -/
theorem test_witness_PresentationFollowsTheOrderingRules :
    let x : Entry := { entryOn .read .waiting none with cls := .expedited }
    let o : Entry := entryOn .read .waiting none
    (∀ e ∈ (unitWith [x]).entries, e.state ≠ .presented) ∧
    ((unitWith [x]).entries = [] ++ x :: [] ∧ x.cls = .expedited ∧ x.state = .waiting ∧
      x.translation.isSome = true) ∧
    (∀ e ∈ (unitWith [o]).entries, e.state ≠ .presented) ∧
    ((unitWith [o]).entries = [] ++ o :: [] ∧ o.cls = .ordinary ∧ o.state = .waiting ∧
      o.translation.isSome = true) ∧
    ∀ older e younger, (unitWith [o]).entries = older ++ e :: younger → e.cls ≠ .expedited :=
  ⟨by decide +kernel, by decide +kernel, by decide +kernel, by decide +kernel,
    fun older e younger h => by rw [only_entry h]; decide +kernel⟩

/-- An Expedited READ behind an Ordinary FENCE that is not DONE is a candidate and not eligible. -/
theorem test_witness_PresentationFollowsTheOrderingRules_barrier :
    let b : Entry := small.newEntry 0 .fence (request [])
    let x : Entry := { entryOn .read .waiting none with cls := .expedited }
    (unitWith [b, x]).entries = [b] ++ x :: [] ∧ x.cls = .expedited ∧ x.state = .waiting ∧
    x.translation.isSome = true ∧ (∀ o ∈ [b], ¬(o.cls = .expedited ∧ o.state = .waiting)) ∧
    ¬∀ o ∈ [b], (o.kind = .fence ∨ o.kind = .closeSession) → o.state = .done := by decide +kernel

/-- The holder of the turn presents at a turn line count one below its weight and at its weight. -/
theorem test_witness_GrantFollowsTheRotation :
    (let s := { withEntry (entryOn .read .presented none) zeroedDram with
        scheduler := { Scheduler.reset with turnLines := 7 } }
    s.resetLow = false ∧ s.inFlight = none ∧ s.presentedOp (.port 0) ≠ none ∧
      s.scheduler.holder = .port 0 ∧ 7 < s.scheduler.weight (.port 0) ∧
      (s.port 0).requests.entries = [] ++ entryOn .read .presented none :: []) ∧
    (let s := { withEntry (entryOn .read .presented none) zeroedDram with
        scheduler := { Scheduler.reset with turnLines := 8 } }
    s.inFlight = none ∧ ¬8 < s.scheduler.weight (.port 0) ∧
      rotationAfter (.port 0) = [.port 1, .port 2, .port 3] ++ .scrubber :: [.port 0] ∧
      (∀ y ∈ [Participant.port 1, .port 2, .port 3], s.presentedOp y = none) ∧
      s.presentedOp .scrubber ≠ none) ∧
    (withEntry (entryOn .read .inMemory none) zeroedDram).inFlight ≠ none ∧
    (∀ p, State.reset.presentedOp (.port p) = none) ∧ State.reset.presentedOp .scrubber = none := by
  decide +kernel

/-- A presented READ, a presented WRITE, no presented entry, and the Scrubber with a block presented and idle. -/
theorem test_witness_GrantFollowsTheRotation_presented :
    (∀ kind ∈ [RequestKind.read, .write], let e := entryOn kind .presented none
      ((withEntry e zeroedDram).port 0).requests.entries = [] ++ e :: [] ∧ e.state = .presented ∧
      e.kind = kind ∧ e.translation = some (Translation.mk 0 0 2 31 2)) ∧
    (∀ e ∈ (small.port 0).requests.entries, e.state ≠ .presented) ∧
    small.pool.scrub.op = .presented 5 255 ∧ State.reset.pool.scrub.op = .idle := by decide +kernel

/-- A READ of lines 0 and 1, of which the first has a correctable error and the second the marker. -/
def flawedRead (fitted : List (Nat × Nat)) : State :=
  withEntry (entryOn .read .inMemory none)
    { (zeroedDram.setFlaw 0 (some .correctable)).setFlaw 1 (some .marker) with fitted := fitted }

/-- Out of TEARDOWN and in it; a line with a held error, with the marker, without DRAM, and with 32 bytes unseen. -/
theorem test_witness_ReadCompletionReturnsTheBytes :
    let e := entryOn .read .inMemory none
    let s := flawedRead zeroedDram.fitted
    (s.resetLow = false ∧ s.inFlight = some (Operation.mk (.port 0) .readLines 0 0 2) ∧
      (s.port 0).requests.entries = [] ++ e :: [] ∧ e.state = .inMemory ∧
      e.translation = some (Translation.mk 0 0 2 31 2) ∧ (s.port 0).session.state ≠ .teardown ∧
      s.dram.flaw 0 = some .correctable ∧ s.dram.flaw 1 = some .marker ∧
      s.dram.isFitted 0 = true ∧ (flawedRead [(0, 1)]).dram.isFitted 1 = false ∧
      [LineReport.unseen (List.replicate 32 7)].getD 0 .clean = .unseen (List.replicate 32 7) ∧
      Sparse.get s.dram.bytes 31 = some 0 ∧
      let t := s.modSession 0 fun c => { c with state := .teardown, cause := some .linkLost }
      t.inFlight = s.inFlight ∧ (t.port 0).session.state = .teardown ∧
      let u := t.modRequests 0 fun r => { r with entries := [e, entryOn .fence .waiting none] }
      (u.port 0).requests.entries = [] ++ e :: [entryOn .fence .waiting none]) ∧
    s.Canonical := by
  refine ⟨?_, ⟨?_, ?_, ?_, ?_, ?_⟩⟩ <;> decide +kernel

theorem test_witness_WriteCompletionStoresTheNamedBytes :
    let e := entryOn .write .inMemory (some [0xAA, 0xBB])
    let s := withEntry e zeroedDram
    (s.resetLow = false ∧ s.inFlight = some (Operation.mk (.port 0) .writeLines 0 0 2) ∧
      (s.port 0).requests.entries = [] ++ e :: [] ∧ e.state = .inMemory ∧
      e.translation = some (Translation.mk 0 0 2 31 2) ∧ e.writeData = some [0xAA, 0xBB] ∧
      (s.port 0).session.state ≠ .teardown ∧ s.dram.isFitted (31 / 32) = true ∧
      (zeroedDram.setFlaw 1 (some .marker)).flaw 1 = some .marker ∧
      (zeroedDram.setFlaw 1 (some .uncorrectable)).flaw 1 = some .uncorrectable) ∧
    s.Canonical := by
  refine ⟨?_, ⟨?_, ?_, ?_, ?_, ?_⟩⟩ <;> decide +kernel

/-- Block 255 of the head frame, an earlier block, and an operation on a frame that is the head no more. -/
theorem test_witness_ZeroCompletionScrubs :
    (scrubbing.resetLow = false ∧
      scrubbing.inFlight = some (Operation.mk .scrubber .zeroLines 5 2040 8) ∧
      scrubbing.pool.scrub.head = some 5 ∧
      scrubbing.pool.scrub.head = scrubbing.pool.scrubQueue.head? ∧
      scrubbing.pool.scrub.done + 1 = 256) ∧
    (let s := scrubbing.modPool fun q => { q with scrub := { q.scrub with done := 254 } }
    s.pool.scrub.done + 1 ≠ 256) ∧
    (let s := scrubbing.modPool fun q => { q with scrubQueue := [], scrub := { q.scrub with head := none } }
    s.pool.scrub.head ≠ some 5 ∧ s.pool.scrub.head = s.pool.scrubQueue.head?) ∧
    scrubbing.Canonical := by
  refine ⟨?_, ?_, ?_, ⟨?_, ?_, ?_, ?_, ?_⟩⟩ <;> decide +kernel

/-- A DONE entry of a class. -/
def doneEntry (c : ReqClass) : Entry := Entry.answered .queryPool c 0 0 .ok none

/-- A port in session with these entries. -/
def portWith (entries : List Entry) : PortState :=
  { portIn .opened with requests := unitWith entries }

/-- The burst turn is due at the limit and not one below it; every source in its turn. -/
theorem test_witness_SourcesInOrder :
    let q := portWith [doneEntry .ordinary]
    let due := { q with transmit := { q.transmit with burst := 4 } }
    let early := { q with transmit := { q.transmit with burst := 3, notices := [.holdOverdue] } }
    (due.requests.burstLimit ≤ due.transmit.burst ∧
      (due.requests.entries.filter fun e => e.cls == .ordinary).head? = some (doneEntry .ordinary) ∧
      due.transmit.hold = false) ∧
    (¬early.requests.burstLimit ≤ early.transmit.burst ∧ early.transmit.refusals = [] ∧
      early.transmit.notices = .holdOverdue :: []) ∧
    (¬q.requests.burstLimit ≤ q.transmit.burst ∧ q.transmit.notices = [] ∧
      (q.requests.entries.filter fun e => e.cls == .expedited).head? = none) ∧
    ((portWith [doneEntry .expedited]).requests.entries.filter fun e => e.cls == .expedited).head? =
      some (doneEntry .expedited) ∧
    ((portWith []).requests.entries.filter fun e => e.cls == .ordinary).head? = none ∧
    ((refusals 1).port 0).transmit.refusals = RefusalRecord.mk .malformed 0 0 .ordinary :: [] := by
  decide +kernel

theorem test_witness_TransmitChoiceHandsOneFrameOver :
    (ready.resetLow = false ∧ (ready.port 0).link.state = .up ∧
      (ready.port 0).link.retransmit = none ∧ (ready.port 0).link.replay.length < 32 ∧
      (ready.port 0).link.noControlPending = true ∧
      (ready.port 0).source = some (.notice (.offerExpired 12))) ∧
    (let s := ready.modTransmit 0 fun t => { t with notices := [] }
    let e : Entry := .answered .claimAdmin .ordinary 6 0x45 .ok (some (.holder 0))
    (s.port 0).source = some (.reply e) ∧ e.result = some .ok ∧
      (s.port 0).requests.entries = [] ++ e :: []) ∧
    ((refusals 8).port 0).source = some (.refusal (RefusalRecord.mk .malformed 0 0 .ordinary)) ∧
    (small.port 0).source = none := by decide +kernel

/-- The reply of a CLOSE. -/
theorem test_witness_TransmitChoiceHandsOneFrameOver_close :
    let e : Entry := .answered .closeSession .ordinary 6 0x45 .ok none
    let s := (smallWith fun q => { q with requests := { q.requests with entries := [e] } }).modSession
      0 fun c => { c with state := .closing }
    (s.port 0).source = some (.reply e) ∧ e.kind = .closeSession ∧ e.result = some .ok ∧
    (s.port 0).session.state = .closing ∧ (s.port 0).link.noControlPending = true := by
  decide +kernel

theorem test_witness_LinkFramesSentAgainAndControlFrames :
    (let s := unacknowledged.modLink 0 fun l => { l with retransmit := some 0 }
    s.resetLow = false ∧ (s.port 0).link.state = .up ∧
      (s.port 0).link.noControlPending = true ∧
      (s.port 0).link.replay = [sentFrame 254, sentFrame 255] ++ sentFrame 0 :: [] ∧
      (∀ g ∈ [sentFrame 254, sentFrame 255], g.seq ≠ (sentFrame 0).seq) ∧
      (s.port 0).link.retransmit = some (sentFrame 0).seq) ∧
    (small.port 0).link.retransmit = none ∧ (small.port 0).link.helloPending = false ∧
    (let s := small.modLink 3 fun l => l.startHello .aligning 0
    (s.port 3).link.state = .aligning ∧ (s.port 3).link.helloPending = true) ∧
    (let s := small.modLink 0 fun l => { l with pendingNak := some 7 }
    (s.port 0).link.state = .up ∧ (s.port 0).link.pendingNak = some 7) ∧
    (let s := small.modLink 0 fun l => { l with pendingAck := some 255 }
    (s.port 0).link.pendingNak = none ∧ (s.port 0).link.pendingAck = some 255) := by
  decide +kernel

/-- The replay timer at two timeouts; the hold timer with a hold that is not yet reported, and with one that is. -/
theorem test_witness_TimersExpire :
    (small.resetLow = false ∧ (small.port 0).link.helloTimer = none ∧
      (small.port 0).link.replayTimer = none ∧ (small.port 0).transmit.holdTimer = none) ∧
    ((small.modLink 3 fun l => { l with helloTimer := some 1000 }).port 3).link.helloTimer =
      some 1000 ∧
    ((unacknowledged.port 0).link.replayTimer = some 10 ∧
      (unacknowledged.port 0).link.timeouts ≤ 2) ∧
    (let s := small.modTransmit 0 fun t => { t with hold := true, holdTimer := some 500 }
    (s.port 0).transmit.holdTimer = some 500 ∧ (s.port 0).transmit.hold = true ∧
      (s.port 0).transmit.overdueSent = false) ∧
    (let s := small.modTransmit 0 fun t =>
      { t with hold := true, overdueSent := true, holdTimer := some 500 }
    (s.port 0).transmit.holdTimer = some 500 ∧ (s.port 0).transmit.overdueSent = true) ∧
    (∀ o ∈ small.share.offers, o.number ≠ 2) ∧
    small.share.offers.find? (fun o => o.number == 9) = some (Offer.mk 9 0 0 0 1 .rw 100000) := by
  decide +kernel

theorem test_witness_HostFramesLeaveMemoryAndOtherLinksAlone :
    (Instr.evictPort 0 (request [1])).sequenced = some (0, 0x5B, request [1]) ∧
    (∃ t, exec (.evictPort 0 (request [1])) small = .next t) ∧ (1 : Port) ≠ 0 :=
  ⟨rfl, ⟨_, rfl⟩, by decide⟩

/-! ### States in order, with a command waiting -/

/-- Ports 0 and 1 in session, three frames of port 0 not acknowledged, region 0 DEFINED, and an ONLINE_REGION waiting. -/
def orderly : State :=
  { State.reset with
    ports := #v[
      { portIn .opened with
        link :=
          { upLink with
            replay := [sentFrame 254, sentFrame 255, sentFrame 0], nextOut := 1
            replayTimer := some 10, retransmit := some 255 } },
      portIn .opened, PortState.reset, PortState.reset]
    pool :=
      { PoolManager.reset with
        regions := PoolManager.reset.regions.set 0
          { Region.emptySlot with state := .defined, stop := some 256 } }
    role := .held 0
    pending := [.onlineRegion 0 (request [0])] }

/-- Its step answers a next state. -/
theorem orderly_steps : ∃ t, step orderly = .next t := ⟨_, rfl⟩

theorem test_witness_StepKeepsValuesInRange :
    (∃ t, step orderly = .next t) ∧ (∀ p, (orderly.port p).WithinBounds) ∧ orderly.LimitsInRange ∧
    orderly.QuotasKept ∧ orderly.SchedulerInRange ∧ orderly.PagesInRange := by
  refine ⟨orderly_steps, fun p => ?_, ?_, ?_, ⟨?_, ?_, ?_⟩, ?_⟩
  · fin_cases p <;> constructor <;> decide +kernel
  · constructor <;> decide +kernel
  · unfold State.QuotasKept
    decide +kernel
  · rintro (p | _)
    · fin_cases p <;> decide +kernel
    · decide +kernel
  · decide +kernel
  · intro p e he
    fin_cases p <;> exact absurd he (List.not_mem_nil)
  · intro p e he
    fin_cases p <;> exact absurd he (List.not_mem_nil)

/-- The Link Units of the orderly state. -/
theorem orderly_replay : ∀ p, (orderly.port p).link.ReplayInOrder := by
  intro p
  fin_cases p
  · refine ⟨⟨by decide, by decide, by decide, trivial⟩, by decide, by decide, fun q h => ?_⟩
    obtain rfl : (255 : Byte) = q := Option.some.inj h
    decide
  all_goals
    exact ⟨trivial, by decide, by decide, fun q h => nomatch (h : (none : Option Byte) = some q)⟩

theorem test_witness_StepKeepsReplayInOrder :
    (∃ t, step orderly = .next t) ∧ ∀ p, (orderly.port p).link.ReplayInOrder :=
  ⟨orderly_steps, orderly_replay⟩

theorem orderly_canonical : orderly.Canonical := by
  constructor <;> decide +kernel

theorem orderly_idle : orderly.OutOfSessionIsEmpty := by
  constructor <;> decide +kernel

theorem test_witness_StepKeepsSessionsInOrder :
    (∃ t, step orderly = .next t) ∧ orderly.Canonical ∧ orderly.HolderInSession ∧
    orderly.DisablePendingInTeardown ∧ orderly.OutOfSessionIsEmpty := by
  refine ⟨orderly_steps, orderly_canonical, ?_, ?_, orderly_idle⟩
  · unfold State.HolderInSession
    decide +kernel
  · unfold State.DisablePendingInTeardown
    decide +kernel

theorem orderly_entries : orderly.EntriesInOrder := by
  refine ⟨by decide +kernel, by decide +kernel, fun p e he => ?_, fun p e he => ?_⟩ <;>
    fin_cases p <;> exact absurd he List.not_mem_nil

theorem orderly_lines : orderly.WriteLinesAccounted :=
  ⟨orderly_entries, by decide +kernel, fun _ o h => nomatch (h : (none : Option Operation) = some o)⟩

theorem test_witness_StepKeepsWriteLinesAccounted :
    (∃ t, step orderly = .next t) ∧ orderly.WriteLinesAccounted :=
  ⟨orderly_steps, orderly_lines⟩

/-- The small state's offers, with ports that stand for them, and a DECLINE waiting. -/
theorem test_witness_StepKeepsOffersInOrder :
    (∃ t, step { small with pending := [.decline 0 (request [1])] } = .next t) ∧
    ({ small with pending := [.decline 0 (request [1])] } : State).OffersInOrder := by
  refine ⟨⟨_, rfl⟩, by decide +kernel, by decide +kernel, by decide +kernel, by decide +kernel,
    by decide +kernel, fun o ho => ?_, by decide +kernel⟩
  simp only [small, List.mem_cons, List.not_mem_nil, or_false] at ho
  rcases ho with rfl | rfl
  · exact ⟨Mapping.mk 4 .rw .allocated, by decide +kernel⟩
  · exact ⟨Mapping.mk 0 .rw .allocated, by decide +kernel⟩

theorem orderly_offers : orderly.OffersInOrder := by
  refine ⟨by decide, by decide, by decide, by decide, by decide, fun o ho => ?_, by decide⟩
  exact absurd ho List.not_mem_nil

/-- No region of the orderly state has come into service. -/
theorem orderly_regionIs (f : Nat) (x : RegionState) (h : x = .online ∨ x = .draining ∨ x = .retired) :
    orderly.regionIs f x = false := by
  have hs : ∀ k, (orderly.region k).state ≠ .online ∧ (orderly.region k).state ≠ .draining ∧
      (orderly.region k).state ≠ .retired := by decide +kernel
  unfold State.regionIs
  split
  · rename_i k _
    rcases h with rfl | rfl | rfl
    · simpa using (hs k).1
    · simpa using (hs k).2.1
    · simpa using (hs k).2.2
  · rfl

theorem orderly_frame (f : Nat) : orderly.frame f = .absentRecord := rfl

theorem orderly_free : orderly.pool.freeList = [] := rfl

theorem orderly_queue : orderly.pool.scrubQueue = [] := rfl

theorem orderly_pool : orderly.PoolInOrder := by
  refine ⟨by decide,
    ⟨by decide +kernel, by decide +kernel, by decide +kernel, by decide +kernel⟩, by decide,
    by decide, fun f => ?_, fun f => ?_, by decide, fun f => ?_, fun f h => ?_, fun f h => ?_,
    by decide +kernel⟩
  · rw [orderly_frame, orderly_free]
    simp [FrameRecord.absentRecord]
  · rw [orderly_frame, orderly_queue]
    simp [FrameRecord.absentRecord]
  · simp [orderly_frame, FrameRecord.absentRecord, orderly_regionIs]
  · simp [orderly_free, orderly_queue] at h
  · simp [orderly_regionIs] at h

theorem orderly_counts : orderly.FramesCounted := by
  refine ⟨fun f => rfl, fun f => rfl, fun f => ?_, fun f => ?_, fun f => ?_, by decide +kernel,
    fun f _ => rfl⟩ <;> simp [orderly_frame, FrameRecord.absentRecord]

theorem test_witness_StepKeepsThePoolAccounted :
    (∃ t, step orderly = .next t) ∧ orderly.PoolAccounted :=
  ⟨orderly_steps, orderly_pool, orderly_counts, orderly_canonical, orderly_entries, orderly_lines,
    orderly_idle, orderly_offers, fun _ ho => absurd ho List.not_mem_nil⟩

/-- The state of the range statement is accounted for as well. -/
theorem test_witness_StepKeepsValuesInRange_frames :
    ((∀ p, (orderly.port p).WithinBounds) ∧ orderly.LimitsInRange ∧ orderly.QuotasKept ∧
      orderly.SchedulerInRange ∧ orderly.PagesInRange) ∧ orderly.PoolAccounted :=
  ⟨test_witness_StepKeepsValuesInRange.2, test_witness_StepKeepsThePoolAccounted.2⟩

/-- A payload of 272 bytes, a link-control frame, a frame of no kind and bytes that are no frame. -/
theorem test_witness_WireBytesSpellTheirCommand :
    frameCheck (frameBytes 0x01 0 2 0 0 0 []) = true ∧ frameCheck (frameBytes 0x02 0 4 0 0 0 []) = true ∧
    frameCheck (frameBytes 0x03 0 0 0 0 0 []) = true ∧
    frameCheck (frameBytes 0x58 7 1 9 0 0 [4, 101, 0]) = true ∧
    (frameBytes 0x58 7 1 9 0 0 [4, 101, 0]).getD 0 0 = 0x58 ∧
    frameCheck (frameBytes 0x80 0 0 0 0 0 []) = true ∧ frameCheck [] = false ∧
    (Instr.write 0 (request (List.replicate 272 0))).wf = true ∧
    (wireOfCommand (.write 0 (request (List.replicate 272 0)))).isSome = true ∧
    (wireOfCommand (.linkNak 3 255)).isSome = true ∧
    (Instr.unknownRequestKind 1 0x80 (request [])).wf = true ∧
    (wireOfCommand (.unknownRequestKind 1 0x80 (request []))).isSome = true ∧
    (Instr.damagedFrame 2 []).wf = true ∧ wireOfCommand (.damagedFrame 2 []) = some (2, []) := by
  decide +kernel

end Sys2Proof.Tests
end

section
/-! SUPPORT. Why the accounting of the pool is not kept by every step: a state that meets all of it and whose step breaks
it. A FENCE of a host has no translation (R112), but no part of State.PoolAccounted says so. -/

namespace Sys2Proof.Machine

/-- A run of consecutive numbers with one value. -/
def Sparse.run {α : Type} (first count : Nat) (x : α) : Sparse α :=
  (List.range' first count).map fun i => (i, x)

theorem Sparse.get_run {α : Type} (first count : Nat) (x : α) (f : Nat) :
    Sparse.get (Sparse.run first count x) f =
      if first ≤ f ∧ f < first + count then some x else none := by
  induction count generalizing first with
  | zero => simp [Sparse.run, Sparse.get]
  | succ n ih =>
    have hcons : Sparse.run first (n + 1) x = (first, x) :: Sparse.run (first + 1) n x := by
      simp [Sparse.run, List.range'_succ]
    rw [hcons, Sparse.get, ih]
    by_cases hf : first = f
    · simp [hf]
    · simp only [hf, if_false]
      congr 1
      exact propext (by omega)

/-! ### The state -/

/-- One line of frame 0. -/
def fencedTranslation : Translation :=
  { frame := 0, firstLine := 0, lineCount := 1, firstByte := 0, length := 1 }

/-- A READ of that line whose operation is in flight. -/
def fencedRead : Entry :=
  { kind := .read, cls := .ordinary, number := 0, mark := 0, state := .inMemory, result := none,
    translation := some fencedTranslation, writeData := none, readData := none, payload := none }

/-- A PENDING FENCE behind it that carries a translation to the same frame. -/
def fencedBarrier : Entry :=
  { fencedRead with kind := .fence, number := 1, state := .waiting }

/-- Frame 0, which both entries pin and nobody maps. -/
def fencedPinned : FrameRecord :=
  { state := .parked, holders := 0, pins := 2, originator := some 0, poisoned := false }

/-- Every other frame of region 0. -/
def fencedRetired : FrameRecord :=
  { state := .retired, holders := 0, pins := 0, originator := none, poisoned := false }

/-- Port 0 is OPEN with the two entries, region 0 is ONLINE, and the completion of the READ waits. -/
def fenced : State :=
  { State.reset with
    ports := State.reset.ports.set 0
      { PortState.reset with
        session := { PortController.reset with state := .opened }
        requests := { RequestUnit.reset with entries := [fencedRead, fencedBarrier] } }
    pool :=
      { PoolManager.reset with
        regions := PoolManager.reset.regions.set 0
          { Region.emptySlot with state := .online, stop := some 256, retired := 255 }
        frames := (0, fencedPinned) :: Sparse.run 1 255 fencedRetired }
    inFlight :=
      some { participant := .port 0, kind := .readLines, frame := 0, firstLine := 0, lineCount := 1 }
    pending := [.readLinesCompletion []] }

/-! ### It is accounted for -/

theorem fenced_frame (f : Nat) :
    fenced.frame f =
      if f = 0 then fencedPinned else if f < 256 then fencedRetired else .absentRecord := by
  have hget : Sparse.get fenced.pool.frames f =
      if 0 = f then some fencedPinned else Sparse.get (Sparse.run 1 255 fencedRetired) f := rfl
  rw [State.frame, PoolManager.frame, hget, Sparse.get_run]
  by_cases h0 : f = 0
  · simp [h0]
  · by_cases h1 : f < 256
    · simp [h0, h1, Ne.symm h0, show 1 ≤ f by omega]
    · simp [h0, h1, Ne.symm h0]

theorem fenced_inRegion (k : Slot) (f : Nat) :
    fenced.inRegion k f = (decide (k = 0) && decide (f < 256)) := by
  have hspan : ∀ k, fenced.regionStop k = (if k = 0 then 256 else 0) ∧
      (k = 0 → fenced.regionStart k = 0) := by decide +kernel
  obtain ⟨hstop, hstart⟩ := hspan k
  by_cases hk : k = 0
  · subst hk
    simp [State.inRegion, hstop, hstart rfl]
  · simp [State.inRegion, hstop, hk]

theorem fenced_regionIs (f : Nat) (x : RegionState) :
    fenced.regionIs f x = (decide (f < 256) && decide (x = .online)) := by
  have hstate : (fenced.region 0).state = .online := by decide +kernel
  by_cases hf : f < 256
  · have hslot : fenced.regionSlot f = some 0 := by
      simp [State.regionSlot, allSlots, fenced_inRegion, hf]
    simp only [State.regionIs, hslot, hstate, hf]
    cases x <;> rfl
  · have hslot : fenced.regionSlot f = none := by
      simp [State.regionSlot, fenced_inRegion, hf]
    simp [State.regionIs, hslot, hf]

theorem fenced_slotsOf (f : Nat) : fenced.slotsOf f = 0 := rfl

theorem fenced_requestsOn (f : Nat) : fenced.requestsOn f = if f = 0 then 2 else 0 := by
  by_cases hf : f = 0
  · subst hf; decide +kernel
  · have hmiss : (some 0 == some f) = false := by simpa using Ne.symm hf
    have hentries : (fenced.port 0).requests.entries.filter (fun e =>
        (e.translation.map Translation.frame) == some f && e.state != .done) = [] := by
      simp [fenced, State.port, fencedRead, fencedBarrier, fencedTranslation, hmiss]
    have hothers : ∀ p : Port, p ≠ 0 → (fenced.port p).requests.entries = [] := by decide +kernel
    simp [State.requestsOn, allPorts, hentries, hothers, hf]

theorem fenced_pool : fenced.PoolInOrder := by
  refine ⟨by decide +kernel,
    ⟨by decide +kernel, by decide +kernel, by decide +kernel, by decide +kernel⟩, by decide,
    by decide, fun f => ?_, fun f => ?_, by decide +kernel, fun f => ?_, fun f h => ?_, fun f h => ?_,
    by decide +kernel⟩
  · have hfree : fenced.pool.freeList = [] := rfl
    rw [fenced_frame, hfree]
    split
    · simp [fencedPinned]
    · split <;> simp [fencedRetired, FrameRecord.absentRecord]
  · have hqueue : fenced.pool.scrubQueue = [] := rfl
    rw [fenced_frame, hqueue]
    split
    · simp [fencedPinned]
    · split <;> simp [fencedRetired, FrameRecord.absentRecord]
  · rw [fenced_frame]
    simp only [fenced_regionIs]
    split
    · rename_i hf; simp [fencedPinned, hf]
    · split
      · rename_i hf; simp [fencedRetired, hf]
      · rename_i hf; simp [FrameRecord.absentRecord, hf]
  · exact h.elim (fun h => absurd h List.not_mem_nil) (fun h => absurd h List.not_mem_nil)
  · simp [fenced_regionIs] at h

/-- Frame 0 alone is PARKED, with 2 pins; no frame has a holder. -/
theorem fenced_record (f : Nat) :
    (fenced.frame f).holders = 0 ∧ (fenced.frame f).pins = (if f = 0 then 2 else 0) ∧
    (fenced.frame f).state ≠ .held ∧ ((fenced.frame f).state = .parked ↔ f = 0) ∧
    ((fenced.frame f).originator.isSome = true ↔ f = 0) ∧ (fenced.frame f).poisoned = false := by
  rw [fenced_frame]
  by_cases h0 : f = 0
  · simp [h0, fencedPinned]
  · by_cases h1 : f < 256
    · simp [h0, h1, fencedRetired]
    · simp [h0, h1, FrameRecord.absentRecord]

theorem fenced_counts : fenced.FramesCounted := by
  refine ⟨fun f => ?_, fun f => ?_, fun f => ?_, fun f => ?_, fun f => ?_, by decide +kernel,
    fun f _ => ?_⟩ <;> obtain ⟨hholders, hpins, hheld, hparked, horiginator, hpoisoned⟩ := fenced_record f
  · rw [hholders, fenced_slotsOf]
  · rw [hpins, fenced_requestsOn]
  · simp [hheld, hholders]
  · rw [hparked, hholders, hpins]
    by_cases h0 : f = 0 <;> simp [h0]
  · rw [horiginator, hparked]
    simp [hheld]
  · exact hpoisoned

theorem fenced_entries : fenced.EntriesInOrder := by
  refine ⟨by decide +kernel, by decide +kernel, ?_, by decide +kernel⟩
  decide +kernel

theorem fenced_lines : fenced.WriteLinesAccounted := by
  refine ⟨fenced_entries, by decide +kernel, fun p o ho hp => ?_⟩
  obtain rfl : _ = o := Option.some.inj ho
  obtain rfl : 0 = p := Participant.port.inj hp
  exact ⟨fencedRead, by decide +kernel, rfl, rfl⟩

theorem fenced_accounted : fenced.PoolAccounted :=
  ⟨fenced_pool, fenced_counts, by constructor <;> decide +kernel, fenced_entries, fenced_lines,
    by constructor <;> decide +kernel,
    ⟨by decide, by decide, by decide, by decide, by decide, fun _ ho => absurd ho List.not_mem_nil,
      by decide⟩,
    fun _ ho => absurd ho List.not_mem_nil⟩

/-! ### Its step is not -/

/-- After the completion the frame has one pin left, though both entries are DONE: the READ gave up its pin, and the
barrier step made the FENCE DONE without one. -/
theorem fenced_step : ∃ t, step fenced = .next t ∧ (t.frame 0).pins = 1 ∧ t.requestsOn 0 = 0 :=
  ⟨_, rfl, by decide +kernel, by decide +kernel⟩

/-- Refutes O58: the barrier step makes a FENCE DONE that carries a translation, and its pin stays. No run from reset
reaches such an entry, but the statement is about every state that is accounted for. -/
theorem not_stepKeepsThePoolAccounted : ¬ Obligations.StepKeepsThePoolAccounted := by
  intro h
  obtain ⟨t, hstep, hpins, hrequests⟩ := fenced_step
  have hcount := (h fenced t hstep fenced_accounted).counts.pins 0
  omega

end Sys2Proof.Machine
end

section
/-! SUPPORT. The Pool Manager's operations, one rule each: what a frame record and a region read as after an update, what
the Scrubber does when its queue changes, and what a drain start and a disposal leave. -/

namespace Sys2Proof.Machine

/-! ### Frame records -/

/-- Of two updates of one number the second counts. -/
theorem Sparse.set_set_some {α : Type} (l : Sparse α) (k : Nat) (x : α) (v : Option α) :
    Sparse.set (Sparse.set l k (some x)) k v = Sparse.set l k v := by
  induction l with
  | nil => cases v <;> simp [Sparse.set, Sparse.entry]
  | cons e l ih =>
    obtain ⟨j, y⟩ := e
    by_cases h1 : k < j
    · simp [Sparse.set, Sparse.entry, h1]
    · by_cases h2 : k = j
      · simp [Sparse.set, Sparse.entry, h2]
      · simp [Sparse.set, h1, h2, ih]

theorem PoolManager.rising_setFrame {q : PoolManager} (h : Sparse.rising q.frames = true) (f : Nat)
    (r : FrameRecord) : Sparse.rising (q.setFrame f r).frames = true :=
  Sparse.rising_set f _ h

theorem PoolManager.frame_setFrame {q : PoolManager} (h : Sparse.rising q.frames = true) (f x : Nat)
    (r : FrameRecord) : (q.setFrame f r).frame x = if x = f then r else q.frame x := by
  simp only [PoolManager.frame, PoolManager.setFrame, Sparse.get_set h]
  by_cases hx : x = f
  · by_cases hr : r = .absentRecord <;> simp [hx, hr]
  · simp [hx]

theorem frame_setFrame {s : State} (h : Sparse.rising s.pool.frames = true) (f x : Nat)
    (r : FrameRecord) : (s.setFrame f r).frame x = if x = f then r else s.frame x :=
  PoolManager.frame_setFrame h f x r

/-- The record just written is read back, whatever the order of the records, if it is listed. -/
theorem frame_setFrame_same {s : State} {f : Nat} {r : FrameRecord} (h : r ≠ .absentRecord) :
    (s.setFrame f r).frame f = r := by
  simp [State.frame, State.setFrame, PoolManager.frame, PoolManager.setFrame, h, Sparse.get_set_some]

/-- Of two records written for one frame the second stays. -/
theorem setFrame_setFrame {s : State} {f : Nat} {r : FrameRecord} (h : r ≠ .absentRecord)
    (r' : FrameRecord) : (s.setFrame f r).setFrame f r' = s.setFrame f r' := by
  simp [State.setFrame, State.modPool, PoolManager.setFrame, h, Sparse.set_set_some]

/-- A record that is not in the state ABSENT is listed. -/
theorem FrameRecord.ne_absent {r : FrameRecord} (h : r.state ≠ .absent) : r ≠ .absentRecord :=
  fun e => h (by rw [e]; rfl)

theorem frame_of_pool {s t : State} (h : t.pool = s.pool) (f : Nat) : t.frame f = s.frame f := by
  rw [State.frame, State.frame, h]

/-- What is said of all listed records and of the ABSENT one is said of every frame. -/
theorem frames_all_iff {q : PoolManager} (h : Sparse.rising q.frames = true)
    (P : Nat → FrameRecord → Bool) (habsent : ∀ f, P f .absentRecord = true) :
    (q.frames.all fun e => P e.1 e.2) = true ↔ ∀ f, P f (q.frame f) = true := by
  rw [List.all_eq_true]
  constructor
  · intro hall f
    unfold PoolManager.frame
    cases hget : Sparse.get q.frames f with
    | none => exact habsent f
    | some r => exact hall (f, r) (Sparse.mem_of_get hget)
  · rintro hall ⟨f, r⟩ he
    have := hall f
    rwa [PoolManager.frame, Sparse.get_of_mem h he] at this

/-! ### A state given to every frame of a list -/

/-- The frame's record with another state. -/
def PoolManager.putState (state : FrameState) (q : PoolManager) (f : Nat) : PoolManager :=
  q.setFrame f { q.frame f with state := state }

theorem retireUnheld_eq : PoolManager.retireUnheld = PoolManager.putState .retired := rfl

theorem scrubFrame_eq : PoolManager.scrubFrame = PoolManager.putState .scrubbing := rfl

/-- The records alone change. -/
theorem foldl_putState_eq (state : FrameState) (l : List Nat) (q : PoolManager) :
    l.foldl (PoolManager.putState state) q =
      { q with frames := (l.foldl (PoolManager.putState state) q).frames } := by
  induction l generalizing q with
  | nil => rfl
  | cons f l ih => rw [List.foldl_cons, ih]; rfl

theorem rising_foldl_putState {q : PoolManager} (h : Sparse.rising q.frames = true) (state : FrameState)
    (l : List Nat) : Sparse.rising (l.foldl (PoolManager.putState state) q).frames = true := by
  induction l generalizing q with
  | nil => exact h
  | cons f l ih => exact ih (PoolManager.rising_setFrame h f _)

theorem frame_foldl_putState {q : PoolManager} (h : Sparse.rising q.frames = true) (state : FrameState)
    (l : List Nat) (x : Nat) :
    (l.foldl (PoolManager.putState state) q).frame x =
      if x ∈ l then { q.frame x with state := state } else q.frame x := by
  induction l generalizing q with
  | nil => simp
  | cons f l ih =>
    have hrising : Sparse.rising (PoolManager.putState state q f).frames = true :=
      PoolManager.rising_setFrame h f _
    have hput : (PoolManager.putState state q f).frame x =
        if x = f then { q.frame x with state := state } else q.frame x := by
      rw [PoolManager.putState, PoolManager.frame_setFrame h]
      by_cases hx : x = f <;> simp [hx]
    rw [List.foldl_cons, ih hrising, hput]
    by_cases hx : x = f <;> by_cases hl : x ∈ l <;> simp [hx, hl]

/-! ### Regions and their spans -/

@[simp] theorem region_modRegion_same (s : State) (k : Slot) (g : Region → Region) :
    (s.modRegion k g).region k = g (s.region k) := by
  simp [State.region, State.modRegion]

@[simp] theorem region_modRegion_ne (s : State) {j k : Slot} (h : j ≠ k) (g : Region → Region) :
    (s.modRegion k g).region j = s.region j := by
  have h' : k.val ≠ j.val := fun e => h (Fin.ext e.symm)
  simp [State.region, State.modRegion, Vector.getElem_set_ne, h']

@[simp] theorem region_setFrame (s : State) (f : Nat) (r : FrameRecord) (k : Slot) :
    (s.setFrame f r).region k = s.region k := rfl

@[simp] theorem frame_modRegion (s : State) (k : Slot) (g : Region → Region) (f : Nat) :
    (s.modRegion k g).frame f = s.frame f := rfl

/-- The slot below the slot `k + 1`. -/
theorem regionStart_succ (s : State) {j k : Slot} (h : k.val = j.val + 1) :
    s.regionStart k = s.regionStop j := by
  have hk : k.val ≠ 0 := by omega
  have hj : k.val - 1 = j.val := by omega
  simp only [State.regionStart, hk, dif_neg, not_false_eq_true, State.regionStop, State.region, hj]
  rfl

theorem regionStart_zero (s : State) {k : Slot} (h : k.val = 0) : s.regionStart k = 0 := by
  simp [State.regionStart, h]

/-- Two states whose regions end at the same frames. -/
def SameSpans (s t : State) : Prop := ∀ k, (t.region k).stop = (s.region k).stop

theorem SameSpans.of_regions {s t : State} (h : t.pool.regions = s.pool.regions) : SameSpans s t :=
  fun k => by rw [State.region, State.region, h]

theorem SameSpans.trans {s t u : State} (h : SameSpans s t) (g : SameSpans t u) : SameSpans s u :=
  fun k => (g k).trans (h k)

/-- A change of a region that keeps its end. -/
theorem SameSpans.modRegion (s : State) (k : Slot) {g : Region → Region}
    (h : (g (s.region k)).stop = (s.region k).stop) : SameSpans s (s.modRegion k g) := by
  intro j
  by_cases hj : j = k
  · subst hj; rw [region_modRegion_same, h]
  · rw [region_modRegion_ne s hj]

theorem SameSpans.regionStop {s t : State} (h : SameSpans s t) (k : Slot) :
    t.regionStop k = s.regionStop k := by
  rw [State.regionStop, State.regionStop, h k]

theorem SameSpans.regionStart {s t : State} (h : SameSpans s t) (k : Slot) :
    t.regionStart k = s.regionStart k := by
  by_cases hk : k.val = 0
  · rw [regionStart_zero t hk, regionStart_zero s hk]
  · have hlt : k.val - 1 < 8 := by omega
    have hj : k.val = (⟨k.val - 1, hlt⟩ : Slot).val + 1 := by simp only; omega
    rw [regionStart_succ t hj, regionStart_succ s hj, h.regionStop]

theorem SameSpans.inRegion {s t : State} (h : SameSpans s t) (k : Slot) :
    t.inRegion k = s.inRegion k := by
  funext f
  rw [State.inRegion, State.inRegion, h.regionStart, h.regionStop]

theorem SameSpans.regionSlot {s t : State} (h : SameSpans s t) (f : Nat) :
    t.regionSlot f = s.regionSlot f := by
  simp only [State.regionSlot, h.inRegion]

theorem inRegion_iff (s : State) (k : Slot) (f : Nat) :
    s.inRegion k f = true ↔ s.regionStart k ≤ f ∧ f < s.regionStop k := by
  simp [State.inRegion]

theorem mem_allSlots (k : Slot) : k ∈ allSlots := by
  fin_cases k <;> decide

theorem inRegion_of_regionSlot {s : State} {f : Nat} {k : Slot} (h : s.regionSlot f = some k) :
    s.inRegion k f = true := by
  simpa using List.find?_some h

theorem inRegion_of_regionSlot_none {s : State} {f : Nat} (h : s.regionSlot f = none) (k : Slot) :
    s.inRegion k f = false := by
  have hall := List.find?_eq_none.1 h k (mem_allSlots k)
  simpa using hall

theorem regionIs_iff (s : State) (f : Nat) (x : RegionState) :
    s.regionIs f x = true ↔ ∃ k, s.regionSlot f = some k ∧ (s.region k).state = x := by
  unfold State.regionIs
  cases s.regionSlot f <;> simp

/-- No frame of the slot is HELD or PARKED (R25, step 6). -/
theorem noneHeld_iff {s : State} (h : Sparse.rising s.pool.frames = true) (k : Slot) :
    s.noneHeld k = true ↔
      ∀ x, s.inRegion k x = true → (s.frame x).state ≠ .held ∧ (s.frame x).state ≠ .parked := by
  rw [State.noneHeld, frames_all_iff h
    (fun f r => !(s.inRegion k f && (r.state == .held || r.state == .parked)))
    (fun f => by simp [FrameRecord.absentRecord])]
  refine forall_congr' fun x => ?_
  cases s.inRegion k x <;> simp [State.frame]

/-! ### The Scrubber (R11 to R14) -/

/-- The scrub position alone changes. -/
theorem PoolManager.settleScrub_eq (q : PoolManager) :
    q.settleScrub = { q with scrub := q.settleScrub.scrub } := by
  unfold PoolManager.settleScrub PoolManager.presentScrub PoolManager.followHead
  split <;> split <;> rfl

@[simp] theorem regions_settleScrub (s : State) : s.settleScrub.pool.regions = s.pool.regions := by
  rw [State.settleScrub, pool_modPool, PoolManager.settleScrub_eq]
@[simp] theorem frames_settleScrub (s : State) : s.settleScrub.pool.frames = s.pool.frames := by
  rw [State.settleScrub, pool_modPool, PoolManager.settleScrub_eq]
@[simp] theorem freeList_settleScrub (s : State) : s.settleScrub.pool.freeList = s.pool.freeList := by
  rw [State.settleScrub, pool_modPool, PoolManager.settleScrub_eq]
@[simp] theorem scrubQueue_settleScrub (s : State) :
    s.settleScrub.pool.scrubQueue = s.pool.scrubQueue := by
  rw [State.settleScrub, pool_modPool, PoolManager.settleScrub_eq]
@[simp] theorem errorThreshold_settleScrub (s : State) :
    s.settleScrub.pool.errorThreshold = s.pool.errorThreshold := by
  rw [State.settleScrub, pool_modPool, PoolManager.settleScrub_eq]
@[simp] theorem frame_settleScrub (s : State) (f : Nat) : s.settleScrub.frame f = s.frame f := by
  rw [State.frame, PoolManager.frame, frames_settleScrub]; rfl
@[simp] theorem region_settleScrub (s : State) (k : Slot) : s.settleScrub.region k = s.region k := by
  rw [State.region, regions_settleScrub]; rfl

/-- A Scrubber whose head is the queue's head, with no operation, presents its next block (R12). -/
theorem PoolManager.scrub_settleScrub_idle {q : PoolManager} (hhead : q.scrub.head = q.scrubQueue.head?)
    (hop : q.scrub.op = .idle) :
    q.settleScrub.scrub =
      { q.scrub with
        op := match q.scrubQueue.head? with
          | some f => .presented f q.scrub.done
          | none => .idle } := by
  have hfollow : q.followHead = q := by simp [PoolManager.followHead, hhead]
  rw [PoolManager.settleScrub, hfollow, PoolManager.presentScrub, hop, hhead]
  cases q.scrubQueue.head? with
  | none => simp [← hop]
  | some f => rfl

/-- A Scrubber whose head is the queue's head, with an operation, does nothing (R12). -/
theorem PoolManager.scrub_settleScrub_busy {q : PoolManager} (hhead : q.scrub.head = q.scrubQueue.head?)
    (hop : q.scrub.op ≠ .idle) : q.settleScrub.scrub = q.scrub := by
  have hfollow : q.followHead = q := by simp [PoolManager.followHead, hhead]
  rw [PoolManager.settleScrub, hfollow, PoolManager.presentScrub]
  cases h : q.scrub.op with
  | idle => exact absurd h hop
  | presented f b => rfl
  | inMemory f b => rfl

/-- A new head starts at 0 operations done; an operation IN_MEMORY is left, and otherwise block 0 of the new head is
presented (R11, R12, R14). -/
theorem PoolManager.scrub_settleScrub_newHead {q : PoolManager}
    (hhead : q.scrub.head ≠ q.scrubQueue.head?) :
    q.settleScrub.scrub =
      { head := q.scrubQueue.head?
        done := 0
        op := match q.scrub.op, q.scrubQueue.head? with
          | .inMemory f b, _ => .inMemory f b
          | _, some f => .presented f 0
          | _, none => .idle } := by
  rw [PoolManager.settleScrub, PoolManager.followHead, if_neg hhead, PoolManager.presentScrub]
  cases q.scrub.op <;> cases q.scrubQueue.head? <;> rfl

/-- What settling does to the scrub position is what ScrubFollows says. -/
theorem PoolManager.settleScrub_follows (q : PoolManager) :
    ScrubFollows q.scrub q.scrubQueue q.settleScrub.scrub := by
  by_cases hhead : q.scrub.head = q.scrubQueue.head?
  · cases hop : q.scrub.op with
    | idle =>
      rw [PoolManager.scrub_settleScrub_idle hhead hop]
      cases hqueue : q.scrubQueue.head? <;> constructor <;> simp [hhead, hqueue, hop]
    | presented f b =>
      rw [PoolManager.scrub_settleScrub_busy hhead (by simp [hop])]
      constructor <;> simp [hhead, hop]
    | inMemory f b =>
      rw [PoolManager.scrub_settleScrub_busy hhead (by simp [hop])]
      constructor <;> simp [hhead, hop]
  · rw [PoolManager.scrub_settleScrub_newHead hhead]
    cases hqueue : q.scrubQueue.head? <;> rw [hqueue] at hhead <;> cases hop : q.scrub.op <;>
      constructor <;> simp [hqueue, hhead, hop]

/-- The Scrubber follows a queue that changed while the scrub position did not. -/
theorem settleScrub_follows {s t : State} (h : t.pool.scrub = s.pool.scrub) :
    ScrubFollows s.pool.scrub t.settleScrub.pool.scrubQueue t.settleScrub.pool.scrub := by
  rw [scrubQueue_settleScrub, ← h]
  exact PoolManager.settleScrub_follows t.pool

/-! ### Notices beside changes of the pool -/

/-- Whom a notice reaches, and how, depends on the ports and the role alone. -/
theorem ports_raiseForAdmin_congr {s t : State} (hports : t.ports = s.ports) (hrole : t.role = s.role)
    (n : Notice) : (t.raiseForAdmin n).ports = (s.raiseForAdmin n).ports := by
  have hport : ∀ p, t.port p = s.port p := fun p => by rw [State.port, State.port, hports]
  unfold State.raiseForAdmin
  rw [hrole]
  cases s.role with
  | held p =>
    have hin : t.inSession p = s.inSession p := by rw [State.inSession, State.inSession, hport]
    cases hs : s.inSession p with
    | true =>
      simp only [raiseNotice_in hs, raiseNotice_in (hin.trans hs), State.enterNotice, State.modTransmit,
        State.modPort, hports]
    | false => simp only [raiseNotice_out hs, raiseNotice_out (hin.trans hs), hports]
  | reserved p => exact hports
  | vacant => exact hports

/-- A quiet change is one of the pool and the ports. -/
theorem Quiet.eq_with {s t : State} (h : Quiet s t) : t = { s with pool := t.pool, ports := t.ports } := by
  obtain ⟨⟨⟨hs, hi, hd, hh, hr, hl, hn, hf, hp⟩, hrole, -⟩, hshare, -⟩ := h
  cases t
  simp_all

/-! ### Retirement (R19, R26) -/

theorem region_retireRegion (s : State) (k j : Slot) :
    (s.retireRegion k).region j = if j = k then { s.region k with state := .retired } else s.region j := by
  have hpool : ∀ t : State, ∀ n, (t.raiseForAdmin n).region j = t.region j := fun t n => by
    rw [State.region, pool_raiseForAdmin]; rfl
  rw [State.retireRegion, hpool]
  by_cases hj : j = k
  · subst hj; simp
  · simp [hj]

@[simp] theorem frames_retireRegion (s : State) (k : Slot) :
    (s.retireRegion k).pool.frames = s.pool.frames := by
  rw [State.retireRegion, pool_raiseForAdmin]; rfl
@[simp] theorem freeList_retireRegion (s : State) (k : Slot) :
    (s.retireRegion k).pool.freeList = s.pool.freeList := by
  rw [State.retireRegion, pool_raiseForAdmin]; rfl
@[simp] theorem scrubQueue_retireRegion (s : State) (k : Slot) :
    (s.retireRegion k).pool.scrubQueue = s.pool.scrubQueue := by
  rw [State.retireRegion, pool_raiseForAdmin]; rfl
@[simp] theorem scrub_retireRegion (s : State) (k : Slot) :
    (s.retireRegion k).pool.scrub = s.pool.scrub := by
  rw [State.retireRegion, pool_raiseForAdmin]; rfl
@[simp] theorem errorThreshold_retireRegion (s : State) (k : Slot) :
    (s.retireRegion k).pool.errorThreshold = s.pool.errorThreshold := by
  rw [State.retireRegion, pool_raiseForAdmin]; rfl
@[simp] theorem frame_retireRegion (s : State) (k : Slot) (f : Nat) :
    (s.retireRegion k).frame f = s.frame f := by
  rw [State.frame, PoolManager.frame, frames_retireRegion]; rfl

theorem ports_retireRegion (s : State) (k : Slot) :
    (s.retireRegion k).ports = (s.raiseForAdmin (.regionState k .retired (s.region k).cause)).ports :=
  ports_raiseForAdmin_congr (ports_modRegion s k _) rfl _

theorem retireRegion_spans (s : State) (k : Slot) : SameSpans s (s.retireRegion k) := by
  intro j
  rw [region_retireRegion]
  split
  · rename_i h; rw [h]
  · rfl

end Sys2Proof.Machine
end

section
/-! SUPPORT. Disposal, the unhold and unpin claims, and the error accounting of a READ completion (1.6, 1.7). -/

namespace Sys2Proof.Machine

/-! ### A frame of a region retired (R19, R26) -/

/-- What decides whether the region of a frame that just retired becomes RETIRED too. -/
def State.LastRetired (s : State) (k : Slot) : Prop :=
  (s.region k).state = .draining ∧ s.noneHeld k = true

theorem noneHeld_countRetired (s : State) (k : Slot) : (s.countRetired k).noneHeld k = s.noneHeld k := by
  have hspans : SameSpans s (s.countRetired k) := SameSpans.modRegion s k rfl
  rw [State.noneHeld, State.noneHeld, hspans.inRegion]
  rfl

/-- The region is counted up, and is retired with its last frame. -/
theorem afterRetired_eq (s : State) (k : Slot) :
    (s.LastRetired k ∧ s.afterRetired k = (s.countRetired k).retireRegion k) ∨
    (¬s.LastRetired k ∧ s.afterRetired k = s.countRetired k) := by
  have hcond : (((s.countRetired k).region k).state = .draining ∧ (s.countRetired k).noneHeld k) ↔
      s.LastRetired k := by
    rw [noneHeld_countRetired, State.countRetired, region_modRegion_same]
    rfl
  by_cases h : s.LastRetired k
  · exact .inl ⟨h, if_pos (hcond.2 h)⟩
  · exact .inr ⟨h, if_neg fun h' => h (hcond.1 h')⟩

/-- The region table alone changes in the pool. -/
theorem pool_afterRetired (s : State) (k : Slot) :
    (s.afterRetired k).pool = { s.pool with regions := (s.afterRetired k).pool.regions } := by
  rcases afterRetired_eq s k with ⟨-, h⟩ | ⟨-, h⟩
  · rw [h, State.retireRegion, pool_raiseForAdmin]; rfl
  · rw [h]; rfl

@[simp] theorem frame_afterRetired (s : State) (k : Slot) (f : Nat) :
    (s.afterRetired k).frame f = s.frame f := by
  rw [State.frame, pool_afterRetired]; rfl

theorem region_afterRetired_ne (s : State) {j k : Slot} (h : j ≠ k) :
    (s.afterRetired k).region j = s.region j := by
  rcases afterRetired_eq s k with ⟨-, heq⟩ | ⟨-, heq⟩
  · rw [heq, region_retireRegion, if_neg h, State.countRetired, region_modRegion_ne s h]
  · rw [heq, State.countRetired, region_modRegion_ne s h]

theorem region_afterRetired_last {s : State} {k : Slot} (h : s.LastRetired k) :
    (s.afterRetired k).region k =
      { s.region k with state := .retired, retired := (s.region k).retired + 1 } := by
  rcases afterRetired_eq s k with ⟨-, heq⟩ | ⟨hn, -⟩
  · rw [heq, region_retireRegion, if_pos rfl, State.countRetired, region_modRegion_same]
  · exact absurd h hn

theorem region_afterRetired_notLast {s : State} {k : Slot} (h : ¬s.LastRetired k) :
    (s.afterRetired k).region k = { s.region k with retired := (s.region k).retired + 1 } := by
  rcases afterRetired_eq s k with ⟨hl, -⟩ | ⟨-, heq⟩
  · exact absurd hl h
  · rw [heq, State.countRetired, region_modRegion_same]

theorem ports_afterRetired_last {s : State} {k : Slot} (h : s.LastRetired k) :
    (s.afterRetired k).ports =
      (s.raiseForAdmin (.regionState k .retired (s.region k).cause)).ports := by
  rcases afterRetired_eq s k with ⟨-, heq⟩ | ⟨hn, -⟩
  · rw [heq, ports_retireRegion, State.countRetired, region_modRegion_same]
    exact ports_raiseForAdmin_congr (ports_modRegion s k _) rfl _
  · exact absurd h hn

theorem ports_afterRetired_notLast {s : State} {k : Slot} (h : ¬s.LastRetired k) :
    (s.afterRetired k).ports = s.ports := by
  rcases afterRetired_eq s k with ⟨hl, -⟩ | ⟨-, heq⟩
  · exact absurd hl h
  · rw [heq]; rfl

/-! ### Disposal (R19) -/

/-- The record of a frame that emptied, in its new state. -/
def FrameRecord.emptied (r : FrameRecord) (state : FrameState) : FrameRecord :=
  { r with state := state, holders := 0, pins := 0, originator := none }

/-- A frame that emptied and retires: its record is RETIRED, and its region, if it has one, is counted. -/
theorem retireFrame_emptied {s : State} {f : Nat} {r : FrameRecord} (hr : r ≠ .absentRecord)
    (hholders : r.holders = 0) (hpins : r.pins = 0) :
    (s.setFrame f r).retireFrame f =
      match s.regionSlot f with
      | some k => (s.setFrame f (r.emptied .retired)).afterRetired k
      | none => s.setFrame f (r.emptied .retired) := by
  have hspans : SameSpans s (s.setFrame f r) := SameSpans.of_regions rfl
  have hrecord : { r with state := FrameState.retired, originator := none } = r.emptied .retired := by
    simp [FrameRecord.emptied, hholders, hpins]
  cases hslot : s.regionSlot f <;>
    simp only [State.retireFrame, frame_setFrame_same hr, setFrame_setFrame hr, hspans.regionSlot, hrecord, hslot]

/-- A frame that emptied and goes back to the scrub queue: its record is SCRUBBING, it stands at the tail, and the
Scrubber follows. -/
theorem queueScrub_emptied {s : State} {f : Nat} {r : FrameRecord} (hr : r ≠ .absentRecord)
    (hholders : r.holders = 0) (hpins : r.pins = 0) :
    (s.setFrame f r).queueScrub f =
      ((s.setFrame f (r.emptied .scrubbing)).modPool fun q =>
        { q with scrubQueue := q.scrubQueue ++ [f] }).settleScrub := by
  have hrecord : { r with state := FrameState.scrubbing, originator := none } = r.emptied .scrubbing := by
    simp [FrameRecord.emptied, hholders, hpins]
  rw [State.queueScrub, frame_setFrame_same hr, setFrame_setFrame hr, hrecord]

/-- What a disposal leaves of the frame `f`, whose record before the claim was `r`; the rest of the pool but the
region's count and the Scrubber is as it was. -/
structure Disposed (s : State) (f : Nat) (t : State) : Prop where
  rest : t = { s with pool := t.pool, ports := t.ports }
  threshold : t.pool.errorThreshold = s.pool.errorThreshold
  others : ∀ x, x ≠ f → t.frame x = s.frame x
  freeList : t.pool.freeList = s.pool.freeList

/-- The part of a disposal that retires the frame. -/
structure RetiredFrame (s : State) (f : Nat) (t : State) : Prop extends Disposed s f t where
  frame : t.frame f = (s.frame f).emptied .retired
  scrubQueue : t.pool.scrubQueue = s.pool.scrubQueue
  scrub : t.pool.scrub = s.pool.scrub
  outside : s.regionSlot f = none → t.pool.regions = s.pool.regions ∧ t.ports = s.ports
  otherRegions : ∀ k, s.regionSlot f = some k → ∀ j, j ≠ k → t.region j = s.region j
  last : ∀ k, s.regionSlot f = some k → (s.region k).state = .draining →
    (∀ x, x ≠ f → s.inRegion k x = true → (s.frame x).state ≠ .held ∧ (s.frame x).state ≠ .parked) →
    t.region k = { s.region k with state := .retired, retired := (s.region k).retired + 1 } ∧
    t.ports = (s.raiseForAdmin (.regionState k .retired (s.region k).cause)).ports
  notLast : ∀ k, s.regionSlot f = some k → ¬((s.region k).state = .draining ∧
    ∀ x, x ≠ f → s.inRegion k x = true → (s.frame x).state ≠ .held ∧ (s.frame x).state ≠ .parked) →
    t.region k = { s.region k with retired := (s.region k).retired + 1 } ∧ t.ports = s.ports

/-- With its record RETIRED the frame itself no longer keeps its region. -/
theorem lastRetired_setFrame_iff {s : State} (h : Sparse.rising s.pool.frames = true) {f : Nat}
    {r : FrameRecord} (hr : r.state = .retired) (k : Slot) :
    (s.setFrame f r).LastRetired k ↔ (s.region k).state = .draining ∧
      ∀ x, x ≠ f → s.inRegion k x = true → (s.frame x).state ≠ .held ∧ (s.frame x).state ≠ .parked := by
  have hspans : SameSpans s (s.setFrame f r) := SameSpans.of_regions rfl
  have hrising : Sparse.rising (s.setFrame f r).pool.frames = true := PoolManager.rising_setFrame h f r
  rw [State.LastRetired, noneHeld_iff hrising, region_setFrame, hspans.inRegion]
  refine and_congr_right fun _ => forall_congr' fun x => ?_
  rw [frame_setFrame h]
  by_cases hx : x = f <;> simp [hx, hr]

theorem retireFrame_retires {s : State} (h : Sparse.rising s.pool.frames = true) {f : Nat}
    {r : FrameRecord} (hr : r ≠ .absentRecord) (hholders : r.holders = 0) (hpins : r.pins = 0)
    (hsame : r.emptied .retired = (s.frame f).emptied .retired) :
    RetiredFrame s f ((s.setFrame f r).retireFrame f) := by
  have hquiet : Quiet s ((s.setFrame f r).retireFrame f) :=
    (setFrame_quiet s f r).trans (retireFrame_quiet _ f)
  have hrest := hquiet.eq_with
  rw [retireFrame_emptied hr hholders hpins, hsame] at hrest ⊢
  have hlast := lastRetired_setFrame_iff h (f := f) (r := (s.frame f).emptied .retired) rfl
  cases hslot : s.regionSlot f with
  | none =>
    rw [hslot] at hrest
    exact
      { rest := hrest
        threshold := rfl
        others := fun x hx => by rw [frame_setFrame h, if_neg hx]
        freeList := rfl
        frame := by rw [frame_setFrame h, if_pos rfl]
        scrubQueue := rfl
        scrub := rfl
        outside := fun _ => ⟨rfl, rfl⟩
        otherRegions := fun k hk => by simp [hslot] at hk
        last := fun k hk => by simp [hslot] at hk
        notLast := fun k hk => by simp [hslot] at hk }
  | some j =>
    rw [hslot] at hrest
    have hpool := pool_afterRetired (s.setFrame f ((s.frame f).emptied .retired)) j
    refine
      { rest := hrest
        threshold := by rw [hpool]; rfl
        others := fun x hx => by rw [frame_afterRetired, frame_setFrame h, if_neg hx]
        freeList := by rw [hpool]; rfl
        frame := by rw [frame_afterRetired, frame_setFrame h, if_pos rfl]
        scrubQueue := by rw [hpool]; rfl
        scrub := by rw [hpool]; rfl
        outside := fun hn => by simp [hslot] at hn
        otherRegions := fun k hk i hi => ?_
        last := fun k hk hdrain hempty => ?_
        notLast := fun k hk hnot => ?_ }
    all_goals
      obtain rfl : j = k := Option.some.inj (hslot.symm.trans hk)
    · rw [region_afterRetired_ne _ hi, region_setFrame]
    · have hl := (hlast j).2 ⟨hdrain, hempty⟩
      refine ⟨by rw [region_afterRetired_last hl, region_setFrame], ?_⟩
      rw [ports_afterRetired_last hl, region_setFrame]
      exact ports_raiseForAdmin_congr (ports_setFrame s f _) rfl _
    · have hl := fun h' => hnot ((hlast j).1 h')
      exact ⟨by rw [region_afterRetired_notLast hl, region_setFrame],
        by rw [ports_afterRetired_notLast hl, ports_setFrame]⟩

/-- The part of a disposal that sends the frame back to the scrub queue. -/
structure RequeuedFrame (s : State) (f : Nat) (t : State) : Prop extends Disposed s f t where
  frame : t.frame f = (s.frame f).emptied .scrubbing
  scrubQueue : t.pool.scrubQueue = s.pool.scrubQueue ++ [f]
  follows : ScrubFollows s.pool.scrub t.pool.scrubQueue t.pool.scrub
  regions : t.pool.regions = s.pool.regions
  ports : t.ports = s.ports

theorem queueScrub_requeues {s : State} (h : Sparse.rising s.pool.frames = true) {f : Nat}
    {r : FrameRecord} (hr : r ≠ .absentRecord) (hholders : r.holders = 0) (hpins : r.pins = 0)
    (hsame : r.emptied .scrubbing = (s.frame f).emptied .scrubbing) :
    RequeuedFrame s f ((s.setFrame f r).queueScrub f) := by
  have hquiet : Quiet s ((s.setFrame f r).queueScrub f) :=
    (setFrame_quiet s f r).trans (queueScrub_quiet _ f)
  have hrest := hquiet.eq_with
  rw [queueScrub_emptied hr hholders hpins, hsame] at hrest ⊢
  have hframe : ∀ x, (((s.setFrame f ((s.frame f).emptied .scrubbing)).modPool fun q =>
      { q with scrubQueue := q.scrubQueue ++ [f] }).settleScrub).frame x =
        if x = f then (s.frame f).emptied .scrubbing else s.frame x := fun x => by
    rw [frame_settleScrub, ← frame_setFrame h]; rfl
  exact
    { rest := hrest
      threshold := by rw [errorThreshold_settleScrub]; rfl
      others := fun x hx => by rw [hframe, if_neg hx]
      freeList := by rw [freeList_settleScrub]; rfl
      frame := by rw [hframe, if_pos rfl]
      scrubQueue := by rw [scrubQueue_settleScrub]; rfl
      follows := settleScrub_follows rfl
      regions := by rw [regions_settleScrub]; rfl
      ports := rfl }

/-- The disposal of a frame whose record was just written with no holder and no pin (R19). -/
theorem dispose_emptied {s : State} (h : Sparse.rising s.pool.frames = true) {f : Nat}
    {r : FrameRecord} (hr : r ≠ .absentRecord) (hholders : r.holders = 0) (hpins : r.pins = 0)
    (hpoisoned : r.poisoned = (s.frame f).poisoned) :
    ((s.frame f).poisoned = true ∨ s.regionIs f .draining = true →
      RetiredFrame s f ((s.setFrame f r).dispose f)) ∧
    ((s.frame f).poisoned = false → s.regionIs f .draining = false →
      RequeuedFrame s f ((s.setFrame f r).dispose f)) := by
  have hsame : ∀ x, r.emptied x = (s.frame f).emptied x := fun x => by
    simp [FrameRecord.emptied, hpoisoned]
  have hregion : (s.setFrame f r).regionIs f .draining = s.regionIs f .draining := rfl
  constructor
  · intro hretires
    rw [State.dispose, if_pos (by rwa [frame_setFrame_same hr, hpoisoned, hregion])]
    exact retireFrame_retires h hr hholders hpins (hsame _)
  · intro hclean hkept
    rw [State.dispose, if_neg (by simp [frame_setFrame_same hr, hpoisoned, hregion, hclean, hkept])]
    exact queueScrub_requeues h hr hholders hpins (hsame _)

/-! ### The claims (R17, R18) -/

/-- After a count fell, with a holder left. -/
theorem settleFrame_held {s : State} {f : Nat} {r : FrameRecord} (hr : r ≠ .absentRecord)
    (hholders : r.holders ≠ 0) : (s.setFrame f r).settleFrame f = s.setFrame f r := by
  simp [State.settleFrame, frame_setFrame_same hr, hholders]

/-- After a count fell, with no holder left and a pin. -/
theorem settleFrame_parked {s : State} {f : Nat} {r : FrameRecord} (hr : r ≠ .absentRecord)
    (hstate : r.state = .held ∨ r.state = .parked) (hholders : r.holders = 0) (hpins : r.pins ≠ 0) :
    (s.setFrame f r).settleFrame f = s.setFrame f { r with state := .parked } := by
  simp only [State.settleFrame, frame_setFrame_same hr, hstate, hholders, hpins, if_true, if_false]
  rw [setFrame_setFrame hr, ← hholders]

/-- After a count fell, with neither left. -/
theorem settleFrame_emptied {s : State} {f : Nat} {r : FrameRecord} (hr : r ≠ .absentRecord)
    (hstate : r.state = .held ∨ r.state = .parked) (hholders : r.holders = 0) (hpins : r.pins = 0) :
    (s.setFrame f r).settleFrame f = (s.setFrame f r).dispose f := by
  simp [State.settleFrame, frame_setFrame_same hr, hstate, hholders, hpins]

/-- Settles O41: an unhold or unpin writes the lower count and settles the frame by what is left. -/
theorem claimsSettleTheFrame : Obligations.ClaimsSettleTheFrame := by
  intro s f hcanonical r disposed
  have hrising := hcanonical.frames
  have hdisposed : ∀ r' : FrameRecord, r' ≠ .absentRecord → r'.holders = 0 → r'.pins = 0 →
      r'.poisoned = r.poisoned → disposed ((s.setFrame f r').dispose f) := by
    intro r' hr' hholders hpins hpoisoned
    obtain ⟨hretires, hrequeues⟩ := dispose_emptied hrising hr' hholders hpins hpoisoned
    have hcommon : Disposed s f ((s.setFrame f r').dispose f) := by
      by_cases hgone : r.poisoned = true ∨ s.regionIs f .draining = true
      · exact (hretires hgone).toDisposed
      · simp only [not_or, Bool.not_eq_true] at hgone
        exact (hrequeues hgone.1 hgone.2).toDisposed
    refine ⟨hcommon.rest, hcommon.threshold, hcommon.others, hcommon.freeList, fun hgone => ?_,
      fun hclean hkept => ?_⟩
    · have hret := hretires hgone
      refine ⟨hret.frame, hret.scrubQueue, hret.scrub, fun hstays => ?_, fun hn => (hret.outside hn).1,
        fun k hk => ⟨hret.otherRegions k hk, fun hdrain hretired => ?_, ?_, ?_, fun hdrain => ?_,
          fun hdrain => ?_⟩⟩
      · cases hslot : s.regionSlot f with
        | none => exact (hret.outside hslot).2
        | some k =>
          refine (hret.notLast k hslot fun ⟨hdrain, hempty⟩ => hstays k hslot hdrain ?_).2
          rw [(hret.last k hslot hdrain hempty).1]
      · by_cases hempty : ∀ x, x ≠ f → s.inRegion k x = true →
            (s.frame x).state ≠ .held ∧ (s.frame x).state ≠ .parked
        · exact (hret.last k hk hdrain hempty).2
        · rw [(hret.notLast k hk fun h => hempty h.2).1, hdrain] at hretired
          cases hretired
      all_goals
        by_cases hlast : (s.region k).state = .draining ∧ ∀ x, x ≠ f → s.inRegion k x = true →
          (s.frame x).state ≠ .held ∧ (s.frame x).state ≠ .parked
      · rw [(hret.last k hk hlast.1 hlast.2).1]
      · rw [(hret.notLast k hk hlast).1]
      · exact .inl (by rw [(hret.last k hk hlast.1 hlast.2).1])
      · exact .inr (by rw [(hret.notLast k hk hlast).1])
      · exact absurd hlast.1 hdrain
      · rw [(hret.notLast k hk hlast).1]
      · exact ⟨fun _ => hlast.2, fun _ => by rw [(hret.last k hk hlast.1 hlast.2).1]⟩
      · rw [(hret.notLast k hk hlast).1, hdrain]
        exact ⟨nofun, fun h => absurd ⟨hdrain, h⟩ hlast⟩
    · have hreq := hrequeues hclean hkept
      exact ⟨hreq.frame, hreq.scrubQueue, hreq.follows, hreq.regions, hreq.ports⟩
  constructor
  · intro hheld
    have hlisted : ∀ holders pins, { r with holders := holders, pins := pins } ≠ .absentRecord :=
      fun _ _ => FrameRecord.ne_absent (by simp [hheld])
    refine ⟨fun h2 => ?_, fun h1 hp => ?_, fun h1 hp => ?_, fun h1 _ => ?_⟩
    · exact settleFrame_held (hlisted (r.holders - 1) r.pins) (Nat.sub_ne_zero_of_lt h2)
    · refine (settleFrame_parked (hlisted (r.holders - 1) r.pins) (.inl hheld)
        (Nat.sub_eq_zero_of_le h1.le) (Nat.one_le_iff_ne_zero.1 hp)).trans ?_
      rw [show r.holders - 1 = 0 from Nat.sub_eq_zero_of_le h1.le]
    · rw [State.unhold, settleFrame_emptied (hlisted (r.holders - 1) r.pins) (.inl hheld)
        (Nat.sub_eq_zero_of_le h1.le) hp]
      exact hdisposed _ (hlisted (r.holders - 1) r.pins) (Nat.sub_eq_zero_of_le h1.le) hp rfl
    · exact settleFrame_held (hlisted r.holders (r.pins - 1)) (Nat.one_le_iff_ne_zero.1 h1)
  · intro hparked h0
    have hlisted : ∀ pins, { r with pins := pins } ≠ .absentRecord :=
      fun _ => FrameRecord.ne_absent (by simp [hparked])
    refine ⟨fun h2 => ?_, fun h1 => ?_⟩
    · refine (settleFrame_parked (hlisted (r.pins - 1)) (.inr hparked) h0
        (Nat.sub_ne_zero_of_lt h2)).trans ?_
      rw [← hparked]
    · rw [State.unpin, settleFrame_emptied (hlisted (r.pins - 1)) (.inr hparked) h0
        (Nat.sub_eq_zero_of_le h1.le)]
      exact hdisposed _ (hlisted (r.pins - 1)) h0 (Nat.sub_eq_zero_of_le h1.le) rfl

/-! ### Memory errors (R20 to R23) -/

@[simp] theorem region_poison (s : State) (f : Nat) (k : Slot) : (s.poison f).region k = s.region k := by
  unfold State.poison
  split
  · rfl
  · rw [State.region, pool_raiseForAdmin]; rfl

@[simp] theorem errorThreshold_poison (s : State) (f : Nat) :
    (s.poison f).pool.errorThreshold = s.pool.errorThreshold := by
  unfold State.poison
  split
  · rfl
  · rw [pool_raiseForAdmin]; rfl

/-- The count of a region risen by one. -/
def State.countedUncorrectable (s : State) (k : Slot) : State :=
  s.modRegion k fun r => { r with uncorrectable := r.uncorrectable + 1 }

/-- The count comes to the threshold, which is not 0, in an ONLINE region (R23). -/
def State.reachesThreshold (s : State) (k : Slot) : Prop :=
  (s.region k).uncorrectable + 1 = s.pool.errorThreshold ∧ s.pool.errorThreshold ≠ 0 ∧
    (s.region k).state = .online

theorem countUncorrectable_saturated {s : State} {k : Slot} (h : 255 ≤ (s.region k).uncorrectable) :
    s.countUncorrectable k = s := by
  rw [State.countUncorrectable, if_neg (by omega)]

theorem compareThreshold_counted_iff (s : State) (k : Slot) :
    (((s.countedUncorrectable k).region k).uncorrectable = (s.countedUncorrectable k).pool.errorThreshold ∧
      (s.countedUncorrectable k).pool.errorThreshold ≠ 0 ∧
      ((s.countedUncorrectable k).region k).state = .online) ↔ s.reachesThreshold k := by
  rw [State.countedUncorrectable, region_modRegion_same]
  rfl

theorem countUncorrectable_drains {s : State} {k : Slot} (h : (s.region k).uncorrectable < 255)
    (hreach : s.reachesThreshold k) :
    s.countUncorrectable k = (s.countedUncorrectable k).startDrain k .threshold := by
  rw [State.countUncorrectable, if_pos h]
  exact if_pos ((compareThreshold_counted_iff s k).2 hreach)

theorem countUncorrectable_counts {s : State} {k : Slot} (h : (s.region k).uncorrectable < 255)
    (hreach : ¬s.reachesThreshold k) : s.countUncorrectable k = s.countedUncorrectable k := by
  rw [State.countUncorrectable, if_pos h]
  exact if_neg fun h' => hreach ((compareThreshold_counted_iff s k).1 h')

/-- Settles O42: the poisoned frame's region is counted up, and the comparison is made with the risen count. -/
theorem readErrorsAreAccounted : Obligations.ReadErrorsAreAccounted := by
  intro s f
  refine ⟨rfl, fun hn => by simp [State.accountRead, hn], fun k hk => by simp [State.accountRead, hk], ?_⟩
  intro poisoned
  refine ⟨fun hn => by simp only [State.accountRead, hn]; rfl, fun k hk => ?_⟩
  intro n counted drains
  have haccount : s.accountRead f .uncorrectable = (s.poison f).countUncorrectable k := by
    simp only [State.accountRead, hk]
  have hregion := region_poison s f k
  have hreach : (s.poison f).reachesThreshold k ↔ drains := by
    rw [State.reachesThreshold, hregion, errorThreshold_poison]
  rw [haccount]
  refine ⟨fun hn => ?_, fun hn hd => ?_, fun hn hd => ?_⟩
  · exact countUncorrectable_saturated (by rw [hregion]; exact hn)
  · exact countUncorrectable_drains (by rw [hregion]; exact hn) (hreach.2 hd)
  · exact countUncorrectable_counts (by rw [hregion]; exact hn) fun h => hd (hreach.1 h)

end Sys2Proof.Machine
end

section
/-! SUPPORT. The region requests (1.10) and the drain start (1.9). -/

namespace Sys2Proof.Machine

/-! ### An administrative request of the holder -/

theorem administrative_holder {s : State} {p : Port} (h : s.role = .held p) (act : State → Answer) :
    s.administrative p act = act s := by
  simp [State.administrative, State.isAdmin, h]

/-- An accepted administrative request of the holder leaves what its action leaves, and its entry with the answer of the
action (R93, R193). -/
theorem State.Accepts.administrative {s : State} {p : Port} {k : RequestKind} {f : RequestFrame}
    (h : s.Accepts p k f) (hrole : s.role = .held p) (hk : k ≠ .openSession) {act : State → Answer}
    (hact : Acted p k s (act s).state) :
    ∃ t, whenRunning s (s.requestArrives p k f fun t =>
        t.acceptDone p k f fun u => u.administrative p act) = .next t ∧
      s.Answers t p k f (act s).result (act s).payload ∧ OnlyQueued p (act s).state t :=
  h.acceptDone (act := fun u => u.administrative p act) (administrative_holder hrole act)
    (hact.counters hk _)

theorem slotOf_none {n : Nat} (h : 8 ≤ n) : slotOf n = none := by
  simp [slotOf, Nat.not_lt.2 h]

theorem slotOf_val {n : Nat} {k : Slot} (h : n = k.val) : slotOf n = some k := by
  simp [slotOf, h]

/-! ### The table of regions (R3) -/

/-- The highest slot that is not EMPTY. -/
theorem highestUsed_eq_some_iff (s : State) (k : Slot) :
    s.highestUsed = some k ↔
      (s.region k).state ≠ .empty ∧ ∀ j, k < j → (s.region j).state = .empty := by
  have hslots : allSlots.reverse = [7, 6, 5, 4, 3, 2, 1, 0] := rfl
  rw [State.highestUsed, List.find?_eq_some_iff_append, hslots]
  constructor
  · rintro ⟨hused, before, after, hsplit, hbefore⟩
    refine ⟨by simpa using hused, fun j hj => ?_⟩
    have hdescending : (before ++ k :: after).Pairwise fun a b => b < a := by
      rw [← hsplit]; decide
    have hmem : j ∈ before ++ k :: after := by
      rw [← hsplit]; fin_cases j <;> decide
    obtain ⟨-, hafter, -⟩ := List.pairwise_append.1 hdescending
    rcases List.mem_append.1 hmem with hin | hin
    · simpa using hbefore j hin
    · rcases List.mem_cons.1 hin with rfl | hin
      · exact absurd hj (lt_irrefl _)
      · exact absurd ((List.pairwise_cons.1 hafter).1 j hin) (not_lt_of_gt hj)
  · rintro ⟨hused, habove⟩
    have hsplit : ∀ k : Slot, ∃ before after, [7, 6, 5, 4, 3, 2, 1, (0 : Slot)] = before ++ k :: after ∧
        ∀ j ∈ before, k < j := by
      intro k
      refine ⟨[7, 6, 5, 4, 3, 2, 1, (0 : Slot)].take (7 - k.val),
        [7, 6, 5, 4, 3, 2, 1, (0 : Slot)].drop (8 - k.val), ?_, ?_⟩ <;> revert k <;> decide
    obtain ⟨before, after, heq, hbefore⟩ := hsplit k
    exact ⟨by simpa using hused, before, after, heq, fun j hj => by simp [habove j (hbefore j hj)]⟩

/-- The pool ends where the highest slot in use ends. -/
theorem poolSize_of_highest {s : State} {k : Slot} (hused : (s.region k).state ≠ .empty)
    (habove : ∀ j, k < j → (s.region j).state = .empty) : s.poolSize = s.regionStop k := by
  rw [State.poolSize, (highestUsed_eq_some_iff s k).2 ⟨hused, habove⟩]

theorem poolSize_of_empty {s : State} (h : ∀ k, (s.region k).state = .empty) : s.poolSize = 0 := by
  have hnone : s.highestUsed = none := List.find?_eq_none.2 fun k _ => by simp [h k]
  rw [State.poolSize, hnone]

theorem lowestEmpty_none {s : State} (h : ∀ k, (s.region k).state ≠ .empty) : s.lowestEmpty = none :=
  List.find?_eq_none.2 fun k _ => by simp [h k]

theorem lowestEmpty_some {s : State} {k : Slot} (hempty : (s.region k).state = .empty)
    (hbelow : ∀ j, j < k → (s.region j).state ≠ .empty) : s.lowestEmpty = some k := by
  have hsplit : ∀ k : Slot, ∃ after, allSlots = allSlots.take k.val ++ k :: after ∧
      ∀ j ∈ allSlots.take k.val, j < k := by
    intro k
    refine ⟨allSlots.drop (k.val + 1), ?_, ?_⟩ <;> revert k <;> decide
  obtain ⟨after, heq, hbefore⟩ := hsplit k
  rw [State.lowestEmpty, List.find?_eq_some_iff_append]
  exact ⟨by simpa using hempty, _, after, heq, fun j hj => by simpa using hbelow j (hbefore j hj)⟩

/-! ### DEFINE_REGION and UNDEFINE_REGION (R28, R29) -/

theorem defineRegion_badSize {s : State} {x : List Byte}
    (h : field x 0 4 % 256 ≠ 0 ∨ field x 0 4 < 256 ∨ 262144 < field x 0 4) :
    s.defineRegion x = .failed s .badValue := by
  simp only [State.defineRegion]
  exact if_pos h

/-- A good size of a region (R28). -/
def GoodSize (size : Nat) : Prop := size % 256 = 0 ∧ 256 ≤ size ∧ size ≤ 262144

theorem defineRegion_goodSize {s : State} {x : List Byte} (h : GoodSize (field x 0 4)) :
    (s.lowestEmpty = none → s.defineRegion x = .failed s .regionState) ∧
    ∀ k, s.lowestEmpty = some k →
      (262144 < s.poolSize + field x 0 4 → s.defineRegion x = .failed s .badValue) ∧
      (s.poolSize + field x 0 4 ≤ 262144 → s.defineRegion x =
        .ok
          (s.modRegion k fun _ =>
            { Region.emptySlot with state := .defined, stop := some (s.poolSize + field x 0 4) })
          (.defined k s.poolSize (s.poolSize + field x 0 4))) := by
  obtain ⟨hunit, hlow, hhigh⟩ := h
  have hgood : ¬(field x 0 4 % Config.regionUnit ≠ 0 ∨ field x 0 4 < Config.regionUnit ∨
      Config.frameCount < field x 0 4) := by
    simp only [Config.regionUnit, Config.frameCount]; omega
  refine ⟨fun hnone => ?_, fun k hk => ⟨fun hlarge => ?_, fun hfits => ?_⟩⟩
  · simp only [State.defineRegion, hgood, hnone, if_false]
  · simp only [State.defineRegion, hgood, hk, if_false]
    exact if_pos hlarge
  · simp only [State.defineRegion, hgood, hk, if_false]
    exact if_neg (Nat.not_lt.2 hfits)

theorem undefineRegion_eq {s : State} {x : List Byte} {k : Slot} (h : field x 0 1 = k.val) :
    s.undefineRegion x =
      if s.highestUsed = some k ∧ (s.region k).state = .defined then
        .ok (s.modRegion k fun _ => .emptySlot) (.slot k)
      else .failed s .regionState := by
  rw [State.undefineRegion, slotOf_val h]

/-- Settles O32: the views of the region table first, then each request by its checks. -/
theorem defineAndUndefineRegion : Obligations.DefineAndUndefineRegion := by
  refine ⟨fun s => ⟨regionStart_zero s rfl, fun j k h => regionStart_succ s h,
    fun k stop h => by simp [State.regionStop, h], fun k => poolSize_of_highest, poolSize_of_empty,
    fun x => ⟨fun k => inRegion_iff s k x, fun k => inRegion_of_regionSlot,
      inRegion_of_regionSlot_none, regionIs_iff s x⟩⟩, ?_⟩
  intro s p f hrole size
  constructor
  · intro haccepts
    obtain ⟨t, hexec, hans, hqueued⟩ := haccepts.administrative hrole (by decide)
      (act := fun v => v.defineRegion f.payload) (defineRegion_acted s p _)
    refine ⟨t, hexec, fun hbad => ?_, fun hgood => ⟨fun hfull => ?_, fun k hempty hbelow =>
      ⟨fun hlarge => ?_, fun hfits => ?_⟩⟩⟩
    · rw [defineRegion_badSize hbad] at hans hqueued
      exact ⟨hans, hqueued⟩
    · rw [(defineRegion_goodSize hgood).1 (lowestEmpty_none hfull)] at hans hqueued
      exact ⟨hans, hqueued⟩
    · rw [((defineRegion_goodSize hgood).2 k (lowestEmpty_some hempty hbelow)).1 hlarge] at hans hqueued
      exact ⟨hans, hqueued⟩
    · rw [((defineRegion_goodSize hgood).2 k (lowestEmpty_some hempty hbelow)).2 hfits] at hans hqueued
      exact ⟨hans, hqueued⟩
  · intro haccepts
    obtain ⟨t, hexec, hans, hqueued⟩ := haccepts.administrative hrole (by decide)
      (act := fun v => v.undefineRegion f.payload) (undefineRegion_acted s p _)
    refine ⟨t, hexec, fun hbad => ?_, fun k hk => ⟨fun hnot => ?_, fun htop => ?_⟩⟩
    · rw [State.undefineRegion, slotOf_none hbad] at hans hqueued
      exact ⟨hans, hqueued⟩
    all_goals rw [undefineRegion_eq hk] at hans hqueued
    · rw [if_neg fun h => hnot ⟨h.2, ((highestUsed_eq_some_iff s k).1 h.1).2⟩] at hans hqueued
      exact ⟨hans, hqueued⟩
    · rw [if_pos ⟨(highestUsed_eq_some_iff s k).2 ⟨by simp [htop.1], htop.2⟩, htop.1⟩] at hans hqueued
      exact ⟨hans, hqueued⟩

/-! ### ONLINE_REGION (R30) -/

theorem mem_regionFrames (s : State) (k : Slot) (x : Nat) :
    x ∈ s.regionFrames k ↔ s.regionStart k ≤ x ∧ x < s.regionStop k := by
  simp only [State.regionFrames, List.mem_map, List.mem_range]
  constructor
  · rintro ⟨i, hi, rfl⟩; omega
  · intro h; exact ⟨x - s.regionStart k, by omega, by omega⟩

/-- The pool before the Scrubber follows. -/
theorem bringOnline_eq (s : State) (k : Slot) :
    s.bringOnline k = ((s.modRegion k fun r => { r with state := .online }).modPool fun q =>
      { q with
        frames := ((s.regionFrames k).foldl (PoolManager.putState .scrubbing) q).frames
        scrubQueue := q.scrubQueue ++ s.regionFrames k }).settleScrub := by
  rw [State.bringOnline, scrubFrame_eq]
  congr 2
  funext q
  rw [foldl_putState_eq]

theorem frame_bringOnline {s : State} (h : Sparse.rising s.pool.frames = true) (k : Slot) (x : Nat) :
    (s.bringOnline k).frame x = if s.regionStart k ≤ x ∧ x < s.regionStop k then
      { s.frame x with state := .scrubbing } else s.frame x := by
  have hfold := frame_foldl_putState (q := (s.modRegion k fun r => { r with state := .online }).pool) h
    .scrubbing (s.regionFrames k) x
  simp only [mem_regionFrames] at hfold
  rw [bringOnline_eq, frame_settleScrub]
  exact hfold

theorem region_bringOnline (s : State) (k j : Slot) :
    (s.bringOnline k).region j = if j = k then { s.region k with state := .online } else s.region j := by
  rw [bringOnline_eq, region_settleScrub]
  by_cases hj : j = k
  · subst hj; rw [if_pos rfl]; exact region_modRegion_same s j fun r => { r with state := .online }
  · rw [if_neg hj]; exact region_modRegion_ne s hj fun r => { r with state := .online }

/-- Settles O33: what ONLINE_REGION does to the records, the queue and the Scrubber, seen behind the acceptance. -/
theorem onlineRegionQueuesItsFrames : Obligations.OnlineRegionQueuesItsFrames := by
  intro s p f haccepts hrole hcanonical
  obtain ⟨t, hexec, hans, hqueued⟩ := haccepts.administrative hrole (by decide)
    (act := fun v => v.onlineRegion f.payload) (onlineRegion_acted s p _)
  refine ⟨t, hexec, fun hbad => ?_, fun k hk => ?_⟩
  · rw [State.onlineRegion, slotOf_none hbad] at hans hqueued
    exact ⟨hans, hqueued⟩
  have honline : s.onlineRegion f.payload =
      if (s.region k).state = .defined then .ok (s.bringOnline k) (.slotState k .online)
      else .failed s .regionState := by
    rw [State.onlineRegion, slotOf_val hk]
  rw [honline] at hans hqueued
  refine ⟨fun hnot => ?_, fun hdefined => ?_⟩
  · rw [if_neg hnot] at hans hqueued
    exact ⟨hans, hqueued⟩
  · rw [if_pos hdefined] at hans hqueued
    have hpool : t.pool = (s.bringOnline k).pool := hqueued.pool
    have hregion : ∀ j, t.region j = (s.bringOnline k).region j := fun j => by
      rw [State.region, hpool]; rfl
    have hquiet := bringOnline_quiet s k
    refine ⟨hans, by rw [hregion, region_bringOnline, if_pos rfl],
      fun j hj => by rw [hregion, region_bringOnline, if_neg hj],
      fun x => (frame_of_pool hpool x).trans (frame_bringOnline hcanonical.frames k x), ?_, ?_, ?_, ?_,
      fun q hq => hqueued.others q hq, hqueued.role.trans hquiet.settles.role,
      hqueued.share.trans hquiet.share⟩
    all_goals rw [hpool, bringOnline_eq]
    · exact scrubQueue_settleScrub _
    · exact settleScrub_follows rfl
    · exact freeList_settleScrub _
    · exact errorThreshold_settleScrub _

/-! ### The drain start (R25) -/

/-- R25, step 1, seen in the pool. -/
theorem pool_markDraining (s : State) (k : Slot) (cause : DrainCause) :
    (s.markDraining k cause).pool =
      (s.modRegion k fun r => { r with state := .draining, cause := some cause }).pool :=
  pool_raiseForAdmin _ _

theorem region_markDraining (s : State) (k j : Slot) (cause : DrainCause) :
    (s.markDraining k cause).region j =
      if j = k then { s.region k with state := .draining, cause := some cause } else s.region j := by
  rw [State.region, pool_markDraining]
  by_cases hj : j = k
  · subst hj; rw [if_pos rfl]; exact region_modRegion_same s j _
  · rw [if_neg hj]; exact region_modRegion_ne s hj _

theorem markDraining_spans (s : State) (k : Slot) (cause : DrainCause) :
    SameSpans s (s.markDraining k cause) := by
  intro j
  rw [region_markDraining]
  split
  · rename_i h; rw [h]
  · rfl

theorem ports_markDraining (s : State) (k : Slot) (cause : DrainCause) :
    (s.markDraining k cause).ports =
      (s.raiseForAdmin (.regionState k .draining (some cause))).ports :=
  ports_raiseForAdmin_congr (ports_modRegion s k _) rfl _

/-- The pool before the Scrubber follows. -/
theorem retireUnheldFrames_eq (s : State) (k : Slot) :
    s.retireUnheldFrames k = ((s.modPool fun q =>
      { q with
        frames := ((s.unheldFrames k).foldl (PoolManager.putState .retired) q).frames
        freeList := q.freeList.filter fun f => !s.inRegion k f
        scrubQueue := q.scrubQueue.filter fun f => !s.inRegion k f }).modRegion k fun r =>
      { r with retired := r.retired + (s.unheldFrames k).length }).settleScrub := by
  rw [State.retireUnheldFrames, retireUnheld_eq]
  congr 3
  funext q
  rw [foldl_putState_eq]

theorem region_retireUnheldFrames (s : State) (k j : Slot) :
    (s.retireUnheldFrames k).region j =
      if j = k then
        { s.region k with retired := (s.region k).retired + (s.unheldFrames k).length }
      else s.region j := by
  rw [retireUnheldFrames_eq, region_settleScrub]
  by_cases hj : j = k
  · subst hj; rw [region_modRegion_same, if_pos rfl]; rfl
  · rw [region_modRegion_ne _ hj, if_neg hj]; rfl

theorem retireUnheldFrames_spans (s : State) (k : Slot) : SameSpans s (s.retireUnheldFrames k) := by
  intro j
  rw [region_retireUnheldFrames]
  split
  · rename_i h; rw [h]
  · rfl

theorem rising_retireUnheldFrames {s : State} (h : Sparse.rising s.pool.frames = true) (k : Slot) :
    Sparse.rising (s.retireUnheldFrames k).pool.frames = true := by
  rw [retireUnheldFrames_eq, frames_settleScrub]
  exact rising_foldl_putState h _ _

theorem frame_retireUnheldFrames {s : State} (h : Sparse.rising s.pool.frames = true) (k : Slot)
    (x : Nat) :
    (s.retireUnheldFrames k).frame x =
      if x ∈ s.unheldFrames k then { s.frame x with state := .retired } else s.frame x := by
  rw [retireUnheldFrames_eq, frame_settleScrub]
  exact frame_foldl_putState h .retired (s.unheldFrames k) x

theorem mem_unheldFrames (s : State) (k : Slot) (x : Nat) :
    x ∈ s.unheldFrames k ↔
      (s.regionStart k ≤ x ∧ x < s.regionStop k) ∧ (x ∈ s.pool.freeList ∨ x ∈ s.pool.scrubQueue) := by
  rw [State.unheldFrames, List.mem_append, List.mem_filter, List.mem_filter, inRegion_iff]
  tauto

/-- A drain start before the slot can be RETIRED at once (R25, steps 1 to 5). -/
def State.drained (s : State) (k : Slot) (cause : DrainCause) : State :=
  (s.markDraining k cause).retireUnheldFrames k

/-- R25, step 6. -/
theorem startDrain_eq (s : State) (k : Slot) (cause : DrainCause) :
    s.startDrain k cause =
      if (s.drained k cause).noneHeld k then (s.drained k cause).retireRegion k
      else s.drained k cause := rfl

theorem unheldFrames_markDraining (s : State) (k : Slot) (cause : DrainCause) :
    (s.markDraining k cause).unheldFrames k = s.unheldFrames k := by
  rw [State.unheldFrames, pool_markDraining, (markDraining_spans s k cause).inRegion]
  rfl

theorem region_drained (s : State) (k j : Slot) (cause : DrainCause) :
    (s.drained k cause).region j =
      if j = k then
        { s.region k with
          state := .draining, cause := some cause
          retired := (s.region k).retired + (s.unheldFrames k).length }
      else s.region j := by
  rw [State.drained, region_retireUnheldFrames, unheldFrames_markDraining, region_markDraining,
    if_pos rfl, region_markDraining]
  split <;> rfl

theorem drained_spans (s : State) (k : Slot) (cause : DrainCause) : SameSpans s (s.drained k cause) :=
  (markDraining_spans s k cause).trans (retireUnheldFrames_spans _ k)

theorem frame_drained {s : State} (h : Sparse.rising s.pool.frames = true) (k : Slot)
    (cause : DrainCause) (x : Nat) :
    (s.drained k cause).frame x =
      if x ∈ s.unheldFrames k then { s.frame x with state := .retired } else s.frame x := by
  have hframe : ∀ x, (s.markDraining k cause).frame x = s.frame x := fun x => by
    rw [State.frame, pool_markDraining]; rfl
  rw [State.drained, frame_retireUnheldFrames (by rw [pool_markDraining]; exact h),
    unheldFrames_markDraining, hframe]

/-- The lists of the pool after a drain start, and the Scrubber that follows them. -/
theorem lists_drained (s : State) (k : Slot) (cause : DrainCause) :
    (s.drained k cause).pool.freeList = s.pool.freeList.filter (fun x => !s.inRegion k x) ∧
    (s.drained k cause).pool.scrubQueue = s.pool.scrubQueue.filter (fun x => !s.inRegion k x) ∧
    ScrubFollows s.pool.scrub (s.drained k cause).pool.scrubQueue (s.drained k cause).pool.scrub ∧
    (s.drained k cause).pool.errorThreshold = s.pool.errorThreshold := by
  rw [State.drained, retireUnheldFrames_eq, (markDraining_spans s k cause).inRegion]
  refine ⟨(freeList_settleScrub _).trans ?_, (scrubQueue_settleScrub _).trans ?_, settleScrub_follows ?_,
    (errorThreshold_settleScrub _).trans ?_⟩ <;>
  · show _ = _
    simp only [State.modRegion, pool_modPool, pool_markDraining]

theorem ports_drained (s : State) (k : Slot) (cause : DrainCause) :
    (s.drained k cause).ports = (s.raiseForAdmin (.regionState k .draining (some cause))).ports := by
  rw [State.drained, retireUnheldFrames_eq]
  exact ports_markDraining s k cause

/-- Whether the slot keeps a frame after a drain start. -/
theorem noneHeld_drained_iff {s : State} (h : Sparse.rising s.pool.frames = true) (k : Slot)
    (cause : DrainCause) :
    (s.drained k cause).noneHeld k = true ↔ ∀ x, s.regionStart k ≤ x ∧ x < s.regionStop k →
      ((s.drained k cause).frame x).state ≠ .held ∧ ((s.drained k cause).frame x).state ≠ .parked := by
  have hrising : Sparse.rising (s.drained k cause).pool.frames = true :=
    rising_retireUnheldFrames (by rw [pool_markDraining]; exact h) k
  rw [noneHeld_iff hrising, (drained_spans s k cause).inRegion]
  simp only [inRegion_iff]

/-- What a drain start leaves of the pool, whether the slot is RETIRED at once or not. -/
structure Drains (s : State) (k : Slot) (cause : DrainCause) (t : State) : Prop where
  frames : t.pool.frames = (s.drained k cause).pool.frames
  freeList : t.pool.freeList = (s.drained k cause).pool.freeList
  scrubQueue : t.pool.scrubQueue = (s.drained k cause).pool.scrubQueue
  scrub : t.pool.scrub = (s.drained k cause).pool.scrub
  threshold : t.pool.errorThreshold = (s.drained k cause).pool.errorThreshold
  others : ∀ j, j ≠ k → t.region j = s.region j

theorem startDrain_drains (s : State) (k : Slot) (cause : DrainCause) :
    Drains s k cause (s.startDrain k cause) := by
  have hothers : ∀ j, j ≠ k → (s.drained k cause).region j = s.region j := fun j hj => by
    rw [region_drained, if_neg hj]
  rw [startDrain_eq]
  split
  · exact ⟨frames_retireRegion _ k, freeList_retireRegion _ k, scrubQueue_retireRegion _ k,
      scrub_retireRegion _ k, errorThreshold_retireRegion _ k,
      fun j hj => by rw [region_retireRegion, if_neg hj, hothers j hj]⟩
  · exact ⟨rfl, rfl, rfl, rfl, rfl, hothers⟩

/-- A slot that keeps no frame is RETIRED at once, and the administrator is told twice. -/
theorem startDrain_empty {s : State} {k : Slot} {cause : DrainCause}
    (h : (s.drained k cause).noneHeld k = true) :
    (s.startDrain k cause).region k =
      { s.region k with
        state := .retired, cause := some cause
        retired := (s.region k).retired + (s.unheldFrames k).length } ∧
    (s.startDrain k cause).ports = ((s.raiseForAdmin (.regionState k .draining (some cause))).raiseForAdmin
      (.regionState k .retired (some cause))).ports := by
  rw [startDrain_eq, if_pos h, region_retireRegion, if_pos rfl, region_drained, if_pos rfl,
    ports_retireRegion, region_drained, if_pos rfl]
  refine ⟨rfl, ports_raiseForAdmin_congr (ports_drained s k cause) ?_ _⟩
  rw [role_raiseForAdmin]
  exact ((markDraining_quiet s k cause).trans (retireUnheldFrames_quiet _ k)).settles.role

/-- A slot that keeps a frame stays DRAINING. -/
theorem startDrain_kept {s : State} {k : Slot} {cause : DrainCause}
    (h : ¬(s.drained k cause).noneHeld k = true) :
    (s.startDrain k cause).region k =
      { s.region k with
        state := .draining, cause := some cause
        retired := (s.region k).retired + (s.unheldFrames k).length } ∧
    (s.startDrain k cause).ports =
      (s.raiseForAdmin (.regionState k .draining (some cause))).ports := by
  rw [startDrain_eq, if_neg h, region_drained, if_pos rfl, ports_drained]
  exact ⟨rfl, rfl⟩

/-- Settles O34: a drain start by whether it leaves a frame, and RETIRE_REGION as one. -/
theorem retireRegionDrains : Obligations.RetireRegionDrains := by
  refine ⟨fun s k cause hcanonical => ?_, fun s p f haccepts hrole => ?_⟩
  · intro mine t listed
    have hdrains := startDrain_drains s k cause
    obtain ⟨hfree, hqueue, hfollows, hthreshold⟩ := lists_drained s k cause
    have hframe : ∀ x, t.frame x = (s.drained k cause).frame x := fun x => by
      rw [State.frame, PoolManager.frame, hdrains.frames]; rfl
    have hlength : (s.unheldFrames k).length = (s.pool.freeList.filter (s.inRegion k)).length +
        (s.pool.scrubQueue.filter (s.inRegion k)).length := List.length_append
    have hheld : (s.drained k cause).noneHeld k = true ↔
        ∀ x, mine x → (t.frame x).state ≠ .held ∧ (t.frame x).state ≠ .parked := by
      simp only [hframe]
      exact noneHeld_drained_iff hcanonical.frames k cause
    refine ⟨fun x => ?_, hdrains.freeList.trans hfree, hdrains.scrubQueue.trans hqueue, ?_, ?_,
      (startDrain_quiet s k cause).eq_with, hdrains.threshold.trans hthreshold, ?_, ?_, ?_,
      hdrains.others⟩
    · rw [hframe, frame_drained hcanonical.frames]
      exact ⟨fun hl => if_pos ((mem_unheldFrames s k x).2 hl),
        fun hl => if_neg fun h => hl ((mem_unheldFrames s k x).1 h)⟩
    · show ScrubFollows _ (s.startDrain k cause).pool.scrubQueue (s.startDrain k cause).pool.scrub
      rwa [hdrains.scrubQueue, hdrains.scrub]
    all_goals by_cases hempty : (s.drained k cause).noneHeld k = true
    · rw [(startDrain_empty hempty).1, if_pos rfl]
      exact (startDrain_empty hempty).2
    · rw [(startDrain_kept hempty).1, if_neg (by simp)]
      exact (startDrain_kept hempty).2
    · rw [(startDrain_empty hempty).1, hlength]
    · rw [(startDrain_kept hempty).1, hlength]
    · exact ⟨fun _ => hheld.1 hempty, fun _ => by rw [(startDrain_empty hempty).1]⟩
    · rw [(startDrain_kept hempty).1]
      exact ⟨nofun, fun h => absurd (hheld.2 h) hempty⟩
    · exact .inl (by rw [(startDrain_empty hempty).1])
    · exact .inr (by rw [(startDrain_kept hempty).1])
  · obtain ⟨t, hexec, hans, hqueued⟩ := haccepts.administrative hrole (by decide)
      (act := fun v => v.retireRequest f.payload) (retireRequest_acted s p _)
    refine ⟨t, hexec, fun hbad => ?_, fun k hk => ?_⟩
    · rw [State.retireRequest, slotOf_none hbad] at hans hqueued
      exact ⟨hans, hqueued⟩
    have hrequest : s.retireRequest f.payload =
        if (s.region k).state = .online then
          .ok (s.startDrain k .admin) (.slotState k ((s.startDrain k .admin).region k).state)
        else .failed s .regionState := by
      rw [State.retireRequest, slotOf_val hk]
    rw [hrequest] at hans hqueued
    refine ⟨fun hnot => ?_, fun honline => ?_⟩
    · rw [if_neg hnot] at hans hqueued
      exact ⟨hans, hqueued⟩
    · rw [if_pos honline] at hans hqueued
      have hregion : t.region k = (s.startDrain k .admin).region k := by
        rw [State.region, hqueued.pool]; rfl
      rw [hregion]
      exact ⟨hans, hqueued⟩

end Sys2Proof.Machine
end

section
/-! SUPPORT. Presented operations and the grant decision (6.2, 6.3). -/

namespace Sys2Proof.Machine

/-! ### The first entry with a property -/

theorem find?_first {α : Type} {P : α → Bool} {older younger : List α} {e : α} (he : P e = true)
    (hold : ∀ y ∈ older, P y = false) : (older ++ e :: younger).find? P = some e := by
  rw [List.find?_eq_some_iff_append]
  exact ⟨he, older, younger, rfl, fun y hy => by simp [hold y hy]⟩

theorem changeFirst_first {P : Entry → Bool} {older younger : List Entry} {e : Entry} (g : Entry → Entry)
    (he : P e = true) (hold : ∀ y ∈ older, P y = false) :
    changeFirst P g (older ++ e :: younger) = older ++ g e :: younger := by
  induction older with
  | nil => simp [changeFirst, he]
  | cons y older ih =>
    have hy : P y = false := hold y (by simp)
    rw [List.cons_append, changeFirst, hy, if_neg (by simp), ih fun z hz => hold z (by simp [hz])]
    rfl

theorem removeFirst_first {P : Entry → Bool} {older younger : List Entry} {e : Entry} (he : P e = true)
    (hold : ∀ y ∈ older, P y = false) : removeFirst P (older ++ e :: younger) = older ++ younger := by
  induction older with
  | nil => simp [removeFirst, he]
  | cons y older ih =>
    have hy : P y = false := hold y (by simp)
    rw [List.cons_append, removeFirst, hy, if_neg (by simp), ih fun z hz => hold z (by simp [hz])]
    rfl

/-- A change of the Request Unit and the presentation after it are one change. -/
theorem modRequests_present (s : State) (p : Port) (g : RequestUnit → RequestUnit) :
    (s.modRequests p g).present p = s.modRequests p fun r => (g r).present (s.port p).session.state := by
  simp [State.present, State.modRequests, modPort_modPort]

/-! ### What the participants have presented (R106, R118, R120) -/

theorem presentedOp_port_none {s : State} {p : Port}
    (h : ∀ e ∈ (s.port p).requests.entries, e.state ≠ .presented) : s.presentedOp (.port p) = none := by
  have hnone : (s.port p).requests.presentedEntry = none := List.find?_eq_none.2 fun e he => by simp [h e he]
  simp only [State.presentedOp, hnone]

theorem presentedOp_port {s : State} {p : Port} {older younger : List Entry} {e : Entry}
    (hentries : (s.port p).requests.entries = older ++ e :: younger) (he : e.state = .presented)
    (hold : ∀ y ∈ older, y.state ≠ .presented) : s.presentedOp (.port p) = e.operation p := by
  have hsome : (s.port p).requests.presentedEntry = some e := by
    rw [RequestUnit.presentedEntry, hentries]
    exact find?_first (by simp [he]) fun y hy => by simp [hold y hy]
  simp only [State.presentedOp, hsome]

theorem presentedOp_scrubber_none {s : State} (h : ∀ f b, s.pool.scrub.op ≠ .presented f b) :
    s.presentedOp .scrubber = none := by
  unfold State.presentedOp
  cases hop : s.pool.scrub.op with
  | idle => rfl
  | presented f b => exact absurd hop (h f b)
  | inMemory f b => rfl

/-! ### The rotation (R123) -/

/-- After each participant come those behind it, then those before it, then itself. -/
theorem rotationAfter_of_split {before after : List Participant} {x : Participant}
    (h : [Participant.port 0, .port 1, .port 2, .port 3, .scrubber] = before ++ x :: after) :
    rotationAfter x = after ++ before ++ [x] := by
  have hlength := congrArg List.length h
  match before, h with
  | [], h => cases h; rfl
  | [_], h => cases h; rfl
  | [_, _], h => cases h; rfl
  | [_, _, _], h => cases h; rfl
  | [_, _, _, _], h => cases h; rfl
  | _ :: _ :: _ :: _ :: _ :: _, h => simp at hlength

/-! ### The grant (R108, R123, R124) -/

theorem turnContinues_iff (s : State) :
    s.turnContinues = true ↔ s.presentedOp s.scheduler.holder ≠ none ∧
      s.scheduler.turnLines < s.scheduler.weight s.scheduler.holder := by
  simp [State.turnContinues, Option.isSome_iff_ne_none]

/-- With the channel BUSY a grant changes nothing. -/
theorem takeGrant_busy {s : State} (h : s.inFlight ≠ none) : s.takeGrant = s := by
  unfold State.takeGrant
  cases hf : s.inFlight with
  | none => exact absurd hf h
  | some o => rfl

/-- With nothing presented a grant changes nothing. -/
theorem takeGrant_nothing {s : State} (hidle : s.inFlight = none) (h : ∀ x, s.presentedOp x = none) :
    s.takeGrant = s := by
  have hstops : s.turnContinues = false := by simp [State.turnContinues, h]
  have hchoice : s.grantChoice = none := by
    rw [State.grantChoice, hstops, if_neg (by simp), List.find?_eq_none]
    exact fun x _ => by simp [h x]
  simp only [State.takeGrant, hidle, hchoice]

/-- A grant that continues the turn. -/
theorem takeGrant_continues {s : State} {o : Operation} (hidle : s.inFlight = none)
    (h : s.turnContinues = true) (ho : s.presentedOp s.scheduler.holder = some o) :
    s.takeGrant = s.grantTo s.scheduler.holder o := by
  have hchoice : s.grantChoice = some s.scheduler.holder := if_pos h
  simp only [State.takeGrant, hidle, hchoice, ho]

/-- A grant that passes the turn to the next participant that presents. -/
theorem takeGrant_passes {s : State} {before rest : List Participant} {x : Participant} {o : Operation}
    (hidle : s.inFlight = none) (h : s.turnContinues = false)
    (hrotation : rotationAfter s.scheduler.holder = before ++ x :: rest)
    (hbefore : ∀ y ∈ before, s.presentedOp y = none) (ho : s.presentedOp x = some o) :
    s.takeGrant = s.grantTo x o := by
  have hchoice : s.grantChoice = some x := by
    rw [State.grantChoice, h, if_neg (by simp), hrotation]
    exact find?_first (by simp [ho]) fun y hy => by simp [hbefore y hy]
  simp only [State.takeGrant, hidle, hchoice, ho]

/-- The state in which the participant is told of its grant. -/
def State.granting (s : State) (x : Participant) (o : Operation) (lines : Nat) : State :=
  { s with inFlight := some o, scheduler := { s.scheduler with holder := x, turnLines := lines } }

theorem grantTo_eq (s : State) (x : Participant) (o : Operation) :
    s.grantTo x o =
      (s.granting x o ((if s.turnContinues then s.scheduler.turnLines else 0) + o.lineCount)).tellGranted
        x := rfl

/-- A port told of its grant: its presented entry is IN_MEMORY, and it looks for another to present. -/
theorem tellGranted_port {s : State} {p : Port} {older younger : List Entry} {e : Entry}
    (hentries : (s.port p).requests.entries = older ++ e :: younger) (he : e.state = .presented)
    (hold : ∀ y ∈ older, y.state ≠ .presented) :
    s.tellGranted (.port p) = s.modRequests p fun r =>
      ({ r with entries := older ++ { e with state := .inMemory } :: younger }).present
        (s.port p).session.state := by
  rw [State.tellGranted, modRequests_present]
  refine modRequests_congr s ?_
  rw [hentries, changeFirst_first _ (by simp [he]) fun y hy => by simp [hold y hy]]

theorem tellGranted_scrubber {s : State} {f b : Nat} (h : s.pool.scrub.op = .presented f b) :
    s.tellGranted .scrubber =
      { s with pool := { s.pool with scrub := { s.pool.scrub with op := .inMemory f b } } } := by
  simp only [State.tellGranted, State.modPool, h]

/-- Whoever is told, the operation in flight and the turn stay. -/
theorem tellGranted_scheduler (s : State) (x : Participant) :
    (s.tellGranted x).inFlight = s.inFlight ∧ (s.tellGranted x).scheduler = s.scheduler := by
  cases x <;> exact ⟨rfl, rfl⟩

/-- Settles O44: the decision by its cases, and what each participant is told. -/
theorem grantFollowsTheRotation : Obligations.GrantFollowsTheRotation := by
  refine ⟨fun _ _ _ => rotationAfter_of_split, fun s p => ⟨presentedOp_port_none, ?_⟩,
    fun s => ⟨fun f b hop => ?_, presentedOp_scrubber_none⟩, fun s hrunning => ?_⟩
  · intro older e younger tr hentries he hold htr operation
    rw [presentedOp_port hentries he hold, Entry.operation, htr]
    exact ⟨fun hk => by simp [Entry.isWrite, hk, operation], fun hk => by simp [Entry.isWrite, hk, operation]⟩
  · simp only [State.presentedOp, hop]; rfl
  · intro c continues granted
    have hexec : exec .grant s = .next s.takeGrant := whenRunning_high hrunning _
    have htold : ∀ x o lines, s.takeGrant = (s.granting x o lines).tellGranted x → granted x o lines := by
      intro x o lines htake
      obtain ⟨hflight, hscheduler⟩ := tellGranted_scheduler (s.granting x o lines) x
      refine ⟨_, hexec, htake ▸ hflight, htake ▸ hscheduler, fun p hx => ?_, fun hx f b hop => ?_⟩
      · subst hx
        rw [htake, hscheduler]
        refine ⟨fun q hq => ?_, rfl, fun older e younger hentries he hold => ?_⟩
        · rw [State.tellGranted, port_present_ne _ hq, port_modRequests_ne _ hq]; rfl
        · exact tellGranted_port (s := s.granting (.port p) o lines) hentries he hold
      · subst hx
        rw [htake, hscheduler]
        exact tellGranted_scrubber (s := s.granting .scrubber o lines) hop
    rw [hexec]
    refine ⟨fun hbusy => by rw [takeGrant_busy hbusy],
      fun hidle hnone => by rw [takeGrant_nothing hidle hnone], fun hidle => ⟨fun o hcont ho => ?_,
        fun before x rest o hstop hrotation hbefore ho => ?_⟩⟩
    · have hturn := (turnContinues_iff s).2 hcont
      refine htold _ _ _ ?_
      rw [takeGrant_continues hidle hturn ho, grantTo_eq, if_pos hturn]
    · have hturn : s.turnContinues = false := by
        simpa using fun h => hstop ((turnContinues_iff s).1 h)
      refine htold _ _ _ ?_
      rw [takeGrant_passes hidle hturn hrotation hbefore ho, grantTo_eq, if_neg (by simp [hturn]), zero_add]

end Sys2Proof.Machine
end

section
/-! SUPPORT. The ZERO_LINES completion (R13, R129): the lines, and the Scrubber. -/

namespace Sys2Proof.Machine

/-! ### Zeroed lines (R129) -/

theorem Dram.isFitted_of_fitted {d e : Dram} (h : e.fitted = d.fitted) (l : Nat) :
    e.isFitted l = d.isFitted l := by
  rw [Dram.isFitted, Dram.isFitted, h]

/-- A choice made for the first line of a run and then for the others is one made for the run. -/
theorem ite_lines_succ {α : Type} (fit : Nat → Prop) [DecidablePred fit] (line n l : Nat) (x y : α) :
    (if (line + 1 ≤ l ∧ l < line + 1 + n) ∧ fit l then x else if l = line ∧ fit line then x else y) =
      if (line ≤ l ∧ l < line + (n + 1)) ∧ fit l then x else y := by
  by_cases hline : l = line
  · subst hline
    by_cases hfit : fit l <;> simp [hfit]
  · have hrun : (line + 1 ≤ l ∧ l < line + 1 + n) ↔ (line ≤ l ∧ l < line + (n + 1)) := by omega
    simp only [hrun, hline, false_and, if_false]

/-- The bytes after one zeroed line. -/
theorem Dram.get_zeroLine {d : Dram} (h : d.wf = true) (line a : Nat) :
    Sparse.get (d.zeroLine line).bytes a =
      if a / 32 = line ∧ d.isFitted line = true then some 0 else Sparse.get d.bytes a := by
  by_cases hline : a / 32 = line
  · by_cases hfit : d.isFitted line = true
    · have hin : line * 32 ≤ a ∧ a < line * 32 + 32 := by omega
      rw [if_pos ⟨hline, hfit⟩, Dram.zeroLine, if_pos hfit, Dram.bytes_setFlaw,
        Dram.get_setBytes (Dram.bytes_wf h), if_pos (by simpa [Config.lineBytes] using hin),
        List.getElem?_replicate, if_pos (by simp only [Config.lineBytes]; omega)]
      rfl
    · rw [if_neg fun hboth => hfit hboth.2, Dram.zeroLine, if_neg hfit]
  · rw [if_neg fun hboth => hline hboth.1]
    exact Dram.get_zeroLine_outside (Dram.bytes_wf h) line a (by simp only [Config.lineBytes]; omega)

/-- The bytes after a ZERO_LINES operation. -/
theorem Dram.get_zeroLines {d : Dram} (h : d.wf = true) (line count a : Nat) :
    Sparse.get (d.zeroLines line count).bytes a =
      if (line ≤ a / 32 ∧ a / 32 < line + count) ∧ d.isFitted (a / 32) = true then some 0
      else Sparse.get d.bytes a := by
  induction count generalizing d line with
  | zero => rw [if_neg (by omega)]; rfl
  | succ n ih =>
    rw [Dram.zeroLines, ih (Dram.wf_zeroLine h line), Dram.get_zeroLine h,
      Dram.isFitted_of_fitted (Dram.fitted_zeroLine d line)]
    exact ite_lines_succ (fun l => d.isFitted l = true) line n (a / 32) _ _

/-- The flaws after a ZERO_LINES operation. -/
theorem Dram.flaw_zeroLines {d : Dram} (h : d.wf = true) (line count l : Nat) :
    (d.zeroLines line count).flaw l =
      if (line ≤ l ∧ l < line + count) ∧ d.isFitted l = true then none else d.flaw l := by
  induction count generalizing d line with
  | zero => rw [if_neg (by omega)]; rfl
  | succ n ih =>
    rw [Dram.zeroLines, ih (Dram.wf_zeroLine h line), Dram.flaw_zeroLine h,
      Dram.isFitted_of_fitted (Dram.fitted_zeroLine d line)]
    exact ite_lines_succ (fun l => d.isFitted l = true) line n l _ _

/-! ### The Scrubber at a completion (R13) -/

/-- The pool with the Scrubber's operation state NONE and this count. -/
def PoolManager.scrubIdle (q : PoolManager) (done : Nat) : PoolManager :=
  { q with scrub := { q.scrub with op := .idle, done := done } }

/-- A completion on a frame that is not the head is discarded. -/
theorem scrubCompleted_discarded {q : PoolManager} {f : Nat} (h : q.scrub.head ≠ some f) :
    q.scrubCompleted f = (q.scrubIdle q.scrub.done).settleScrub := by
  rw [PoolManager.scrubCompleted, if_neg h]
  rfl

/-- A block of the head is counted. -/
theorem scrubCompleted_counted {q : PoolManager} {f : Nat} (h : q.scrub.head = some f)
    (hdone : q.scrub.done + 1 ≠ 256) :
    q.scrubCompleted f = (q.scrubIdle (q.scrub.done + 1)).settleScrub := by
  rw [PoolManager.scrubCompleted, if_pos h, if_neg (c := q.scrub.done + 1 = Config.frameBlocks) hdone]
  rfl

/-- The last block of the head: the frame is FREE. -/
theorem scrubCompleted_finished {q : PoolManager} {f : Nat} (h : q.scrub.head = some f)
    (hdone : q.scrub.done + 1 = 256) :
    q.scrubCompleted f = ((q.scrubIdle q.scrub.done).finishScrub f).settleScrub := by
  rw [PoolManager.scrubCompleted, if_pos h, if_pos (c := q.scrub.done + 1 = Config.frameBlocks) hdone]
  rfl

/-- A completion leaves the regions and the threshold alone. -/
theorem scrubCompleted_keeps (q : PoolManager) (f : Nat) :
    (q.scrubCompleted f).regions = q.regions ∧ (q.scrubCompleted f).errorThreshold = q.errorThreshold := by
  by_cases h : q.scrub.head = some f
  · by_cases hdone : q.scrub.done + 1 = 256
    · rw [scrubCompleted_finished h hdone, PoolManager.settleScrub_eq]; exact ⟨rfl, rfl⟩
    · rw [scrubCompleted_counted h hdone, PoolManager.settleScrub_eq]; exact ⟨rfl, rfl⟩
  · rw [scrubCompleted_discarded h, PoolManager.settleScrub_eq]; exact ⟨rfl, rfl⟩

/-- An idle Scrubber that settles presents the next block of a head that stays; the lists and records stay. -/
theorem settleScrub_scrubIdle {q : PoolManager} (h : q.scrub.head = q.scrubQueue.head?) (done : Nat) :
    (q.scrubIdle done).settleScrub =
      { q with
        scrub :=
          { head := q.scrub.head
            done := done
            op := match q.scrub.head with
              | some f => .presented f done
              | none => .idle } } := by
  have hhead : (q.scrubIdle done).scrubQueue.head? = q.scrub.head := h.symm
  rw [PoolManager.settleScrub_eq, PoolManager.scrub_settleScrub_idle (q := q.scrubIdle done) h rfl, hhead]
  rfl

/-- The finished frame's place in the lists and records. -/
theorem finishScrub_eq (q : PoolManager) (f : Nat) :
    q.finishScrub f =
      { q with
        frames := (q.setFrame f { q.frame f with state := .free }).frames
        scrubQueue := q.scrubQueue.drop 1
        freeList := q.freeList ++ [f] } := rfl

/-- With the last block done another frame of the queue is presented from its first block on. -/
theorem scrub_finished_newHead {q : PoolManager} {f : Nat} (h : q.scrub.head = some f)
    (hnew : (q.scrubQueue.drop 1).head? ≠ some f) :
    ((q.scrubIdle q.scrub.done).finishScrub f).settleScrub.scrub =
      { head := (q.scrubQueue.drop 1).head?
        done := 0
        op := match (q.scrubQueue.drop 1).head? with
          | some g => .presented g 0
          | none => .idle } := by
  have hhead : ((q.scrubIdle q.scrub.done).finishScrub f).scrub.head ≠
      ((q.scrubIdle q.scrub.done).finishScrub f).scrubQueue.head? := fun e => hnew (e.symm.trans h)
  rw [PoolManager.scrub_settleScrub_newHead hhead]
  simp only [finishScrub_eq, PoolManager.scrubIdle]
  cases (q.scrubQueue.drop 1).head? <;> rfl

theorem Canonical.dram_wf {s : State} (h : s.Canonical) : s.dram.wf = true := by
  simp [Dram.wf, h.bytes, h.flaws]

/-- Settles O47: the lines and the Scrubber, one after the other. -/
theorem zeroCompletionScrubs : Obligations.ZeroCompletionScrubs := by
  intro s o hrunning hcanonical hflight hparticipant hkind first covered
  have hexec : exec .zeroLinesCompletion s = .next (s.zeroCompleted o) := by
    refine (whenRunning_high hrunning _).trans ?_
    simp only [hflight, hparticipant, hkind]
  have hwf := Canonical.dram_wf hcanonical
  have hdram : (s.zeroCompleted o).dram = s.dram.zeroLines first o.lineCount := rfl
  have hpool : (s.zeroCompleted o).pool = s.pool.scrubCompleted o.frame := rfl
  obtain ⟨hregions, hthreshold⟩ := scrubCompleted_keeps s.pool o.frame
  refine ⟨_, hexec, rfl, fun a ha => ?_, fun a hcov hfit => ?_, fun l hl => ?_, fun l hcov hfit => ?_, rfl,
    (congrArg Dram.fitted hdram).trans (Dram.fitted_zeroLines _ _ _), hregions, hthreshold,
    fun hhead hqueue => ⟨fun hdone => ?_, fun hdone => ?_⟩, fun hhead hqueue => ?_⟩
  · rw [hdram, Dram.get_zeroLines hwf]
    exact if_neg fun h => ha.elim (fun hc => hc h.1) fun hf => by simp [h.2] at hf
  · rw [hdram, Dram.get_zeroLines hwf]
    exact if_pos ⟨hcov, hfit⟩
  · rw [hdram, Dram.flaw_zeroLines hwf]
    exact if_neg fun h => hl.elim (fun hc => hc h.1) fun hf => by simp [h.2] at hf
  · rw [hdram, Dram.flaw_zeroLines hwf]
    exact if_pos ⟨hcov, hfit⟩
  · rw [hpool, scrubCompleted_counted hhead hdone, settleScrub_scrubIdle hqueue, hhead]
    exact ⟨rfl, rfl, rfl, rfl⟩
  · have hfinished := scrubCompleted_finished hhead hdone
    have hsettled : s.pool.scrubCompleted o.frame = { (s.pool.scrubIdle s.pool.scrub.done).finishScrub o.frame
        with scrub := (s.pool.scrubCompleted o.frame).scrub } := by
      rw [hfinished]; exact PoolManager.settleScrub_eq _
    have hframe : ∀ x, (s.zeroCompleted o).frame x =
        if x = o.frame then { s.frame o.frame with state := .free } else s.frame x := fun x => by
      rw [State.frame, hpool, hsettled]
      exact PoolManager.frame_setFrame hcanonical.frames o.frame x _
    have hscrubQueue : (s.zeroCompleted o).pool.scrubQueue = s.pool.scrubQueue.drop 1 := by
      rw [hpool, hsettled]; rfl
    refine ⟨by rw [hpool, hsettled]; rfl, hscrubQueue, by rw [hframe, if_pos rfl],
      fun x hx => by rw [hframe, if_neg hx], ?_, fun hnew => ?_⟩
    · rw [hpool, hfinished, PoolManager.settleScrub_eq]
      exact (PoolManager.settleScrub_follows _).head
    · rw [hscrubQueue] at hnew ⊢
      rw [hpool, hfinished, scrub_finished_newHead hhead hnew]
      refine ⟨rfl, ?_⟩
      cases (s.pool.scrubQueue.drop 1).head? <;> rfl
  · rw [hpool, scrubCompleted_discarded hhead, settleScrub_scrubIdle hqueue]
    refine ⟨rfl, rfl, rfl, rfl, rfl, ?_⟩
    cases s.pool.scrub.head <;> rfl

end Sys2Proof.Machine
end

section
/-! SUPPORT. The state right after reset is in order. -/

namespace Sys2Proof.Machine

theorem reset_port (p : Port) : State.reset.port p = .reset := by
  simp [State.reset, State.port]

theorem reset_region (k : Slot) : State.reset.region k = .emptySlot := by
  simp [State.reset, PoolManager.reset, State.region]

theorem reset_weight (x : Participant) : State.reset.scheduler.weight x = 8 := by
  simp [State.reset, Scheduler.reset, Scheduler.weight]

/-- No frame is in a region. -/
theorem reset_regionIs (f : Nat) (x : RegionState) : State.reset.regionIs f x = false := by
  have hslot : State.reset.regionSlot f = none :=
    List.find?_eq_none.2 fun k _ => by simp [State.inRegion, State.regionStop, reset_region, Region.emptySlot]
  simp [State.regionIs, hslot]

/-- Every frame is ABSENT. -/
theorem reset_frame (f : Nat) : State.reset.frame f = .absentRecord := rfl

theorem reset_lists : State.reset.pool.freeList = [] ∧ State.reset.pool.scrubQueue = [] := ⟨rfl, rfl⟩

theorem reset_bounds (p : Port) : (State.reset.port p).WithinBounds := by
  rw [reset_port]
  constructor <;> decide

theorem reset_limits : State.reset.LimitsInRange := by
  constructor <;> decide

theorem reset_quotas : State.reset.QuotasKept := by
  intro p
  rw [State.mappedCount, reset_port]
  decide

theorem reset_scheduler : State.reset.SchedulerInRange := by
  refine ⟨fun x => ?_, by decide, fun p e he => ?_⟩
  · rw [reset_weight]; decide
  · rw [reset_port] at he
    exact absurd he List.not_mem_nil

theorem reset_pages : State.reset.PagesInRange := by
  intro p e he
  rw [reset_port] at he
  exact absurd he List.not_mem_nil

theorem reset_replay (p : Port) : (State.reset.port p).link.ReplayInOrder := by
  rw [reset_port]
  exact ⟨trivial, by decide, by decide, nofun⟩

theorem reset_poolInOrder : State.reset.PoolInOrder := by
  refine ⟨rfl, ⟨fun j k _ h => ?_, fun k => ?_, fun k h => ?_, fun k => ?_⟩, List.nodup_nil,
    List.nodup_nil, fun f => ?_, fun f => ?_, rfl, fun f => ?_, fun f h => ?_, fun f h => ?_,
    fun k => ?_⟩
  · rw [reset_region] at h; exact absurd rfl h
  · simp [reset_region, Region.emptySlot]
  · rw [reset_region] at h; exact absurd rfl h
  · simp [reset_region, Region.emptySlot]
  · simp [reset_frame, reset_lists, FrameRecord.absentRecord]
  · simp [reset_frame, reset_lists, FrameRecord.absentRecord]
  · simp [reset_frame, reset_regionIs, FrameRecord.absentRecord]
  · simp [reset_lists] at h
  · simp [reset_regionIs] at h
  · rw [reset_region]; rfl

theorem reset_framesCounted : State.reset.FramesCounted := by
  refine ⟨fun f => rfl, fun f => rfl, fun f => ?_, fun f => ?_, fun f => ?_, fun p => ?_, fun f _ => rfl⟩
  · simp [reset_frame, FrameRecord.absentRecord]
  · simp [reset_frame, FrameRecord.absentRecord]
  · simp [reset_frame, FrameRecord.absentRecord]
  · rw [reset_port]; exact List.Pairwise.nil

theorem reset_canonical : State.reset.Canonical := by
  refine ⟨rfl, rfl, rfl, fun e he => absurd he List.not_mem_nil, fun p => ?_⟩
  rw [reset_port]; rfl

theorem reset_entriesInOrder : State.reset.EntriesInOrder := by
  refine ⟨fun p => ?_, fun p => ?_, fun p e he => ?_, fun p e he => ?_⟩ <;>
    simp only [reset_port] at *
  · decide
  · rfl
  · exact absurd he List.not_mem_nil
  · exact absurd he List.not_mem_nil

theorem reset_writeLines : State.reset.WriteLinesAccounted := by
  refine ⟨reset_entriesInOrder, fun p => ?_, fun p o h => nomatch (h : (none : Option Operation) = some o)⟩
  rw [reset_port]; rfl

theorem reset_outOfSession : State.reset.OutOfSessionIsEmpty := by
  refine ⟨fun p _ => ?_, fun p h => ?_, fun p _ => ?_⟩
  · rw [reset_port]; rfl
  · rw [reset_port] at h; cases h
  · rw [reset_port]; rfl

theorem reset_offers : State.reset.OffersInOrder :=
  ⟨by decide, by decide, .nil, fun _ h => absurd h List.not_mem_nil, fun _ h => absurd h List.not_mem_nil,
    fun _ h => absurd h List.not_mem_nil, .nil⟩

theorem reset_poolAccounted : State.reset.PoolAccounted :=
  ⟨reset_poolInOrder, reset_framesCounted, reset_canonical, reset_entriesInOrder, reset_writeLines,
    reset_outOfSession, reset_offers, fun _ h => absurd h List.not_mem_nil⟩

/-- Settles O59, property by property. -/
theorem resetStateIsInOrder : Obligations.ResetStateIsInOrder := by
  refine ⟨reset_bounds, reset_limits, reset_quotas, reset_scheduler, reset_pages, reset_replay,
    fun p h => ?_, fun p h => ?_, reset_poolAccounted⟩
  · cases h
  · rw [reset_port] at h; cases h

end Sys2Proof.Machine
end

section
/-! SUPPORT. The READ_LINES completion (R109, R127): what is found in the lines, what the lines keep, the bytes read, and
what a completion leaves of its port. -/

namespace Sys2Proof.Machine

/-! ### What is found in a line (R127) -/

/-- A line that cannot be read: no DRAM, the marker, an uncorrectable error that it keeps, or one found now. -/
def Dram.Unreadable (d : Dram) (line : Nat) (report : LineReport) : Prop :=
  d.isFitted line = false ∨ d.flaw line = some .marker ∨ d.flaw line = some .uncorrectable ∨
    report = .uncorrectable

/-- A line that is read with correction. -/
def Dram.Corrected (d : Dram) (line : Nat) (report : LineReport) : Prop :=
  ¬d.Unreadable line report ∧
    (report = .corrected ∨ (d.flaw line = some .correctable ∧ report = .clean))

theorem Dram.found_uncorrectable_iff (d : Dram) (line : Nat) (report : LineReport) :
    d.found line report = .uncorrectable ↔ d.Unreadable line report := by
  unfold Dram.found Dram.Unreadable
  cases d.isFitted line with
  | false => simp
  | true => rcases d.flaw line with _ | ⟨_ | _ | _⟩ <;> cases report <;> simp

theorem Dram.found_corrected_iff (d : Dram) (line : Nat) (report : LineReport) :
    d.found line report = .corrected ↔ d.Corrected line report := by
  unfold Dram.found Dram.Corrected Dram.Unreadable
  cases d.isFitted line with
  | false => simp
  | true => rcases d.flaw line with _ | ⟨_ | _ | _⟩ <;> cases report <;> simp

theorem Dram.found_unseen_iff (d : Dram) (line : Nat) (report : LineReport) (bytes : List Byte) :
    d.found line report = .unseen bytes ↔ ¬d.Unreadable line report ∧ report = .unseen bytes := by
  unfold Dram.found Dram.Unreadable
  cases d.isFitted line with
  | false => simp
  | true => rcases d.flaw line with _ | ⟨_ | _ | _⟩ <;> cases report <;> simp

/-- A line found clean has no flaw. -/
theorem Dram.flaw_of_found_clean {d : Dram} {line : Nat} {report : LineReport}
    (h : d.found line report = .clean) : d.flaw line = none := by
  unfold Dram.found at h
  cases hfit : d.isFitted line with
  | false => simp [hfit] at h
  | true =>
    rcases hflaw : d.flaw line with _ | ⟨_ | _ | _⟩
    · rfl
    all_goals rw [hfit, hflaw] at h; cases report <;> simp at h

theorem Dram.fitted_of_not_unreadable {d : Dram} {line : Nat} {report : LineReport}
    (h : ¬d.Unreadable line report) : d.isFitted line = true := by
  simpa using fun hf => h (.inl hf)

theorem getD_foundLines (d : Dram) (first count : Nat) (reports : List LineReport) {i : Nat}
    (h : i < count) :
    (d.foundLines first count reports).getD i .clean = d.found (first + i) (reports.getD i .clean) := by
  simp [Dram.foundLines, h]

theorem length_foundLines (d : Dram) (first count : Nat) (reports : List LineReport) :
    (d.foundLines first count reports).length = count := by
  simp [Dram.foundLines]

theorem mem_foundLines {d : Dram} {first count : Nat} {reports : List LineReport} {r : LineReport} :
    r ∈ d.foundLines first count reports ↔
      ∃ i, i < count ∧ d.found (first + i) (reports.getD i .clean) = r := by
  simp [Dram.foundLines]

/-! ### The worst condition decides (R127) -/

theorem worse_uncorrectable_iff (a b : ReadClass) :
    a.worse b = .uncorrectable ↔ a = .uncorrectable ∨ b = .uncorrectable := by
  cases a <;> cases b <;> simp [ReadClass.worse]

theorem worse_clean_iff (a b : ReadClass) : a.worse b = .clean ↔ a = .clean ∧ b = .clean := by
  cases a <;> cases b <;> simp [ReadClass.worse]

theorem foldl_worse_uncorrectable_iff (found : List LineReport) (c : ReadClass) :
    found.foldl (fun c r => c.worse (readClassOf r)) c = .uncorrectable ↔
      c = .uncorrectable ∨ ∃ r ∈ found, readClassOf r = .uncorrectable := by
  induction found generalizing c with
  | nil => simp
  | cons r found ih => rw [List.foldl_cons, ih, worse_uncorrectable_iff]; simp [or_assoc]

theorem foldl_worse_clean_iff (found : List LineReport) (c : ReadClass) :
    found.foldl (fun c r => c.worse (readClassOf r)) c = .clean ↔
      c = .clean ∧ ∀ r ∈ found, readClassOf r = .clean := by
  induction found generalizing c with
  | nil => simp
  | cons r found ih => rw [List.foldl_cons, ih, worse_clean_iff]; simp [and_assoc]

theorem classify_uncorrectable_iff (found : List LineReport) :
    classify found = .uncorrectable ↔ .uncorrectable ∈ found := by
  have hclass : ∀ r, readClassOf r = .uncorrectable ↔ r = .uncorrectable := fun r => by
    cases r <;> simp [readClassOf]
  rw [classify, foldl_worse_uncorrectable_iff]
  simp [hclass]

theorem classify_clean_iff (found : List LineReport) :
    classify found = .clean ↔ ∀ r ∈ found, r ≠ .uncorrectable ∧ r ≠ .corrected := by
  have hclass : ∀ r, readClassOf r = .clean ↔ r ≠ .uncorrectable ∧ r ≠ .corrected := fun r => by
    cases r <;> simp [readClassOf]
  rw [classify, foldl_worse_clean_iff]
  simp [hclass]

/-! ### What the lines keep (R127; log entry 27) -/

/-- The flaw of a line after a READ_LINES operation found it so. -/
def Dram.keptFlaw (d : Dram) (line : Nat) (found : LineReport) : Option LineFlaw :=
  (d.keepFound line found).flaw line

/-- The byte at an address after a READ_LINES operation found its line so. -/
def Dram.keptByte (d : Dram) (a : Nat) (found : LineReport) : Option Byte :=
  Sparse.get (d.keepFound (a / 32) found).bytes a

theorem Dram.keptFlaw_eq {d : Dram} (h : d.wf = true) (line : Nat) (found : LineReport) :
    d.keptFlaw line found =
      if d.isFitted line = true then
        match found with
        | .clean => d.flaw line
        | .corrected => some .correctable
        | .uncorrectable => if d.flaw line = some .marker then some .marker else some .uncorrectable
        | .unseen _ => none
      else d.flaw line := by
  rw [Dram.keptFlaw, Dram.flaw_keepFound h]
  simp only [true_and] <;> rfl

theorem Dram.flaw_keepFound_eq {d : Dram} (h : d.wf = true) (line x : Nat) (found : LineReport) :
    (d.keepFound line found).flaw x = if x = line then d.keptFlaw line found else d.flaw x := by
  by_cases hx : x = line
  · rw [if_pos hx, hx, Dram.keptFlaw]
  · rw [if_neg hx, Dram.flaw_keepFound h, if_neg fun hboth => hx hboth.1]

theorem report_unseen_or_not (r : LineReport) :
    (∃ bytes, r = .unseen bytes) ∨ ∀ bytes, r ≠ .unseen bytes := by
  cases r <;> simp

theorem Dram.keepFound_unfitted {d : Dram} {line : Nat} (h : ¬d.isFitted line = true) (found : LineReport) :
    d.keepFound line found = d := by
  unfold Dram.keepFound
  rw [if_neg h]

/-- Only an error that passed unseen leaves other bytes. -/
theorem Dram.bytes_keepFound {d : Dram} {line : Nat} {found : LineReport}
    (h : ∀ bytes, found ≠ .unseen bytes) : (d.keepFound line found).bytes = d.bytes := by
  unfold Dram.keepFound
  split
  · cases found with
    | clean => rfl
    | corrected => rfl
    | uncorrectable => simp only; split <;> rfl
    | unseen bytes => exact absurd rfl (h bytes)
  · rfl

/-- A line with an error that passed unseen: what was read is what it holds. -/
theorem Dram.get_keepFound_unseen {d : Dram} (h : d.wf = true) {line : Nat}
    (hfit : d.isFitted line = true) (bytes : List Byte) (a : Nat) :
    Sparse.get (d.keepFound line (.unseen bytes)).bytes a =
      if a / 32 = line then bytes[a % 32]?.or (Sparse.get d.bytes a) else Sparse.get d.bytes a := by
  have hlength : (d.mergedLine line 0 [] (.unseen bytes)).length = 32 := by
    simp [Dram.mergedLine, lineAddresses, Config.lineBytes]
  have hkeep : (d.keepFound line (.unseen bytes)).bytes =
      (d.setBytes (line * 32) (d.mergedLine line 0 [] (.unseen bytes))).bytes := by
    simp only [Dram.keepFound, hfit, if_true, Dram.bytes_setFlaw, Config.lineBytes]
  rw [hkeep, Dram.get_setBytes (Dram.bytes_wf h), hlength]
  by_cases hline : a / 32 = line
  · have hin : line * 32 ≤ a ∧ a < line * 32 + 32 := by omega
    have haddress : line * 32 + (a - line * 32) = a := by omega
    have hsmall : a - line * 32 < 32 := by omega
    rw [if_pos hin, if_pos hline]
    simp [Dram.mergedLine, lineAddresses, Config.lineBytes, hsmall, haddress, namedByte]
  · rw [if_neg (by omega), if_neg hline]

theorem Dram.get_keepFound_eq {d : Dram} (h : d.wf = true) (line a : Nat) (found : LineReport) :
    Sparse.get (d.keepFound line found).bytes a =
      if a / 32 = line then d.keptByte a found else Sparse.get d.bytes a := by
  by_cases hline : a / 32 = line
  · rw [if_pos hline, Dram.keptByte, hline]
  · rw [if_neg hline]
    by_cases hfit : d.isFitted line = true
    · rcases report_unseen_or_not found with ⟨bytes, rfl⟩ | hseen
      · rw [Dram.get_keepFound_unseen h hfit, if_neg hline]
      · rw [Dram.bytes_keepFound hseen]
    · rw [Dram.keepFound_unfitted hfit]

/-- A line keeps the same whatever was found in another before. -/
theorem Dram.kept_keepFound {d : Dram} (h : d.wf = true) {line x : Nat} (hx : x ≠ line)
    (first found : LineReport) :
    (d.keepFound line first).keptFlaw x found = d.keptFlaw x found ∧
    ∀ a, a / 32 = x → (d.keepFound line first).keptByte a found = d.keptByte a found := by
  have hwf := Dram.wf_keepFound h line first
  have hfit : (d.keepFound line first).isFitted x = d.isFitted x :=
    Dram.isFitted_of_fitted (Dram.fitted_keepFound d line first) x
  have hflaw : (d.keepFound line first).flaw x = d.flaw x := by
    rw [Dram.flaw_keepFound_eq h, if_neg hx]
  refine ⟨by rw [Dram.keptFlaw_eq hwf, Dram.keptFlaw_eq h, hfit, hflaw], fun a ha => ?_⟩
  have hbyte : Sparse.get (d.keepFound line first).bytes a = Sparse.get d.bytes a := by
    rw [Dram.get_keepFound_eq h, if_neg (by rw [ha]; exact hx)]
  unfold Dram.keptByte
  rw [ha]
  by_cases hfitted : d.isFitted x = true
  · rcases report_unseen_or_not found with ⟨bytes, rfl⟩ | hseen
    · rw [Dram.get_keepFound_unseen hwf (hfit.trans hfitted), Dram.get_keepFound_unseen h hfitted, hbyte]
    · rw [Dram.bytes_keepFound (d := d) hseen, Dram.bytes_keepFound hseen, hbyte]
  · rw [Dram.keepFound_unfitted (d := d) hfitted, Dram.keepFound_unfitted (by rwa [hfit]), hbyte]

/-- Each line of a READ_LINES operation keeps its own, and nothing else changes. -/
theorem Dram.keepLines_spec {d : Dram} (h : d.wf = true) (first : Nat) (found : List LineReport) :
    (∀ l, (d.keepLines first found).flaw l =
      if first ≤ l ∧ l < first + found.length then d.keptFlaw l (found.getD (l - first) .clean)
      else d.flaw l) ∧
    ∀ a, Sparse.get (d.keepLines first found).bytes a =
      if first ≤ a / 32 ∧ a / 32 < first + found.length then
        d.keptByte a (found.getD (a / 32 - first) .clean)
      else Sparse.get d.bytes a := by
  induction found generalizing d first with
  | nil =>
    refine ⟨fun l => ?_, fun a => ?_⟩
    · rw [if_neg (by simp only [List.length_nil]; omega)]; rfl
    · rw [if_neg (by simp only [List.length_nil]; omega)]; rfl
  | cons r found ih =>
    obtain ⟨hflaw, hbyte⟩ := ih (Dram.wf_keepFound h first r) (first + 1)
    have hlast : ∀ l, l ≠ first → ((first + 1 ≤ l ∧ l < first + 1 + found.length) ↔
        (first ≤ l ∧ l < first + (r :: found).length)) := fun l hl => by
      simp only [List.length_cons]; omega
    have hget : ∀ l, first + 1 ≤ l → (r :: found).getD (l - first) .clean =
        found.getD (l - (first + 1)) .clean := fun l hl => by
      rw [show l - first = l - (first + 1) + 1 by omega, List.getD_cons_succ]
    refine ⟨fun l => ?_, fun a => ?_⟩
    · rw [Dram.keepLines, hflaw, Dram.flaw_keepFound_eq h]
      by_cases hl : l = first
      · subst hl
        rw [if_neg (by omega), if_pos rfl, if_pos (by simp)]
        simp
      · rw [if_neg hl]
        by_cases hin : first + 1 ≤ l ∧ l < first + 1 + found.length
        · rw [if_pos hin, if_pos ((hlast l hl).1 hin), hget l hin.1, (Dram.kept_keepFound h hl r _).1]
        · rw [if_neg hin, if_neg fun hn => hin ((hlast l hl).2 hn)]
    · rw [Dram.keepLines, hbyte, Dram.get_keepFound_eq h]
      by_cases hl : a / 32 = first
      · rw [if_neg (by omega), if_pos hl, if_pos (by simp [hl]), hl]
        simp
      · rw [if_neg hl]
        by_cases hin : first + 1 ≤ a / 32 ∧ a / 32 < first + 1 + found.length
        · rw [if_pos hin, if_pos ((hlast _ hl).1 hin), hget _ hin.1, (Dram.kept_keepFound h hl r _).2 a rfl]
        · rw [if_neg hin, if_neg fun hn => hin ((hlast _ hl).2 hn)]

/-- The flaw that a line keeps, by how it was read. -/
theorem Dram.keptFlaw_found {d : Dram} (h : d.wf = true) (line : Nat) (report : LineReport) :
    (d.isFitted line = false → d.keptFlaw line (d.found line report) = d.flaw line) ∧
    (d.isFitted line = true → d.Unreadable line report → d.keptFlaw line (d.found line report) =
      if d.flaw line = some .marker then some .marker else some .uncorrectable) ∧
    (d.Corrected line report → d.keptFlaw line (d.found line report) = some .correctable) ∧
    (¬d.Unreadable line report → ¬d.Corrected line report →
      d.keptFlaw line (d.found line report) = none) := by
  refine ⟨fun hfit => ?_, fun hfit hbad => ?_, fun hcorrected => ?_, fun hgood hnot => ?_⟩ <;>
    rw [Dram.keptFlaw_eq h]
  · rw [if_neg (by simp [hfit])]
  · rw [if_pos hfit, (Dram.found_uncorrectable_iff d line report).2 hbad]
  · rw [if_pos (Dram.fitted_of_not_unreadable hcorrected.1),
      (Dram.found_corrected_iff d line report).2 hcorrected]
  · rw [if_pos (Dram.fitted_of_not_unreadable hgood)]
    cases hfound : d.found line report with
    | clean => exact Dram.flaw_of_found_clean hfound
    | corrected => exact absurd ((Dram.found_corrected_iff d line report).1 hfound) hnot
    | uncorrectable => exact absurd ((Dram.found_uncorrectable_iff d line report).1 hfound) hgood
    | unseen bytes => rfl

/-- A byte stays but under an error that passed unseen. -/
theorem Dram.keptByte_found_same {d : Dram} {a : Nat} {report : LineReport}
    (h : ∀ bytes, ¬d.Unreadable (a / 32) report → report ≠ .unseen bytes) :
    d.keptByte a (d.found (a / 32) report) = Sparse.get d.bytes a := by
  rw [Dram.keptByte, Dram.bytes_keepFound]
  intro bytes hfound
  obtain ⟨hgood, hunseen⟩ := (Dram.found_unseen_iff d (a / 32) report bytes).1 hfound
  exact h bytes hgood hunseen

theorem Dram.keptByte_found_unseen {d : Dram} (hwf : d.wf = true) {a : Nat} {bytes : List Byte}
    (h : ¬d.Unreadable (a / 32) (.unseen bytes)) :
    d.keptByte a (d.found (a / 32) (.unseen bytes)) = bytes[a % 32]?.or (Sparse.get d.bytes a) := by
  rw [Dram.keptByte, (Dram.found_unseen_iff d _ _ bytes).2 ⟨h, rfl⟩,
    Dram.get_keepFound_unseen hwf (Dram.fitted_of_not_unreadable h), if_pos rfl]

/-- The byte that is read of a readable line is the one the line holds afterwards. -/
theorem Dram.readByte_found {d : Dram} (hwf : d.wf = true) {a : Nat} {report : LineReport} {b : Byte}
    (h : ¬d.Unreadable (a / 32) report) (hkept : d.keptByte a (d.found (a / 32) report) = some b)
    (n : Nat) : d.readByte n a (d.found (a / 32) report) = b := by
  have hstored : Sparse.get d.bytes a = some b → d.byte n a = b := fun hget => by
    rw [Dram.byte, hget]
  cases hfound : d.found (a / 32) report with
  | uncorrectable => exact absurd ((Dram.found_uncorrectable_iff d _ _).1 hfound) h
  | clean =>
    rw [hfound, Dram.keptByte, Dram.bytes_keepFound (by simp)] at hkept
    exact hstored hkept
  | corrected =>
    rw [hfound, Dram.keptByte, Dram.bytes_keepFound (by simp)] at hkept
    exact hstored hkept
  | unseen bytes =>
    obtain ⟨hgood, rfl⟩ := (Dram.found_unseen_iff d _ _ bytes).1 hfound
    rw [Dram.keptByte_found_unseen hwf hgood] at hkept
    simp only [Dram.readByte, List.getD_eq_getElem?_getD, Config.lineBytes]
    cases hbyte : bytes[a % 32]? with
    | some c => simpa [hbyte] using hkept
    | none => exact hstored (by simpa [hbyte] using hkept)

/-! ### The bytes returned (R109) -/

theorem length_readBytes (d : Dram) (n first start length : Nat) (found : List LineReport) :
    (d.readBytes n first start length found).length = length := by
  simp [Dram.readBytes]

theorem getElem?_readBytes (d : Dram) (n first start : Nat) {length i : Nat} (found : List LineReport)
    (h : i < length) :
    (d.readBytes n first start length found)[i]? =
      some (d.readByte n (start + i) (found.getD ((start + i) / 32 - first) .clean)) := by
  simp [Dram.readBytes, h, Config.lineBytes]

/-! ### The pool after a claim and after the error accounting depends on the pool alone -/

section
variable {s t : State} (h : t.pool = s.pool)
include h

theorem pool_modRegion_congr (k : Slot) (g : Region → Region) :
    (t.modRegion k g).pool = (s.modRegion k g).pool := by
  rw [State.modRegion, State.modRegion, pool_modPool, pool_modPool, h]

theorem pool_setFrame_congr (f : Nat) (r : FrameRecord) : (t.setFrame f r).pool = (s.setFrame f r).pool := by
  rw [State.setFrame, State.setFrame, pool_modPool, pool_modPool, h]

theorem region_of_pool (k : Slot) : t.region k = s.region k := by
  rw [State.region, State.region, h]

theorem spans_of_pool : SameSpans s t := .of_regions (by rw [h])

theorem noneHeld_of_pool (k : Slot) : t.noneHeld k = s.noneHeld k := by
  rw [State.noneHeld, State.noneHeld, (spans_of_pool h).inRegion, h]

theorem regionIs_of_pool (f : Nat) (x : RegionState) : t.regionIs f x = s.regionIs f x := by
  rw [State.regionIs, State.regionIs, (spans_of_pool h).regionSlot]
  cases s.regionSlot f with
  | none => rfl
  | some k => simp only [region_of_pool h]

theorem pool_retireRegion_congr (k : Slot) : (t.retireRegion k).pool = (s.retireRegion k).pool := by
  rw [State.retireRegion, State.retireRegion, pool_raiseForAdmin, pool_raiseForAdmin,
    pool_modRegion_congr h]

theorem pool_afterRetired_congr (k : Slot) : (t.afterRetired k).pool = (s.afterRetired k).pool := by
  have hcount : (t.countRetired k).pool = (s.countRetired k).pool := pool_modRegion_congr h k _
  simp only [State.afterRetired, apply_ite State.pool, region_of_pool hcount, noneHeld_of_pool hcount,
    pool_retireRegion_congr hcount, hcount]

theorem pool_dispose_congr (f : Nat) : (t.dispose f).pool = (s.dispose f).pool := by
  have hset := fun state => pool_setFrame_congr h f { s.frame f with state := state, originator := none }
  have hretire : (t.retireFrame f).pool = (s.retireFrame f).pool := by
    rw [State.retireFrame, State.retireFrame, (spans_of_pool h).regionSlot, frame_of_pool h]
    cases s.regionSlot f with
    | none => exact hset _
    | some k => exact pool_afterRetired_congr (hset _) k
  have hqueue : (t.queueScrub f).pool = (s.queueScrub f).pool := by
    simp only [State.queueScrub, State.settleScrub, pool_modPool, frame_of_pool h, hset]
  simp only [State.dispose, apply_ite State.pool, frame_of_pool h, regionIs_of_pool h, hretire, hqueue]

theorem pool_unpin_congr (f : Nat) : (t.unpin f).pool = (s.unpin f).pool := by
  have hset := pool_setFrame_congr h f { s.frame f with pins := (s.frame f).pins - 1 }
  simp only [State.unpin, State.settleFrame, frame_of_pool h, apply_ite State.pool, frame_of_pool hset,
    pool_dispose_congr hset, pool_setFrame_congr hset, hset]

theorem pool_startDrain_congr (k : Slot) (cause : DrainCause) :
    (t.startDrain k cause).pool = (s.startDrain k cause).pool := by
  have hmark : (t.markDraining k cause).pool = (s.markDraining k cause).pool := by
    rw [pool_markDraining, pool_markDraining, pool_modRegion_congr h]
  have hdrained : (t.drained k cause).pool = (s.drained k cause).pool := by
    simp only [State.drained, State.retireUnheldFrames, State.settleScrub, State.modRegion, pool_modPool,
      State.unheldFrames, hmark, (spans_of_pool hmark).inRegion]
  simp only [startDrain_eq, apply_ite State.pool, noneHeld_of_pool hdrained,
    pool_retireRegion_congr hdrained, hdrained]

theorem pool_countUncorrectable_congr (k : Slot) :
    (t.countUncorrectable k).pool = (s.countUncorrectable k).pool := by
  have hcounted := pool_modRegion_congr h k fun r => { r with uncorrectable := r.uncorrectable + 1 }
  simp only [State.countUncorrectable, State.compareThreshold, apply_ite State.pool, region_of_pool h,
    region_of_pool hcounted, pool_startDrain_congr hcounted, hcounted, h]

theorem pool_poison_congr (f : Nat) : (t.poison f).pool = (s.poison f).pool := by
  simp only [State.poison, apply_ite State.pool, pool_raiseForAdmin, frame_of_pool h,
    pool_setFrame_congr h, h]

theorem pool_accountRead_congr (f : Nat) (c : ReadClass) :
    (t.accountRead f c).pool = (s.accountRead f c).pool := by
  have hslot := (spans_of_pool h).regionSlot f
  cases c with
  | clean => exact h
  | corrected =>
    simp only [State.accountRead, hslot]
    cases s.regionSlot f with
    | none => exact h
    | some k => exact pool_modRegion_congr h k _
  | uncorrectable =>
    simp only [State.accountRead, hslot]
    cases s.regionSlot f with
    | none => exact pool_poison_congr h f
    | some k => exact pool_countUncorrectable_congr (pool_poison_congr h f) k

end


/-! ### The lines after the operation -/

/-- The DRAM after the READ_LINES operation with these reports. -/
def Dram.afterRead (d : Dram) (first count : Nat) (reports : List LineReport) : Dram :=
  d.keepLines first (d.foundLines first count reports)

theorem Dram.flaw_afterRead {d : Dram} (h : d.wf = true) (first : Nat) (reports : List LineReport)
    {count i : Nat} (hi : i < count) :
    (d.afterRead first count reports).flaw (first + i) =
      d.keptFlaw (first + i) (d.found (first + i) (reports.getD i .clean)) := by
  rw [Dram.afterRead, (Dram.keepLines_spec h first _).1, length_foundLines, if_pos (by omega),
    Nat.add_sub_cancel_left, getD_foundLines d first count reports hi]

theorem Dram.flaw_afterRead_outside {d : Dram} (h : d.wf = true) {first count l : Nat}
    (reports : List LineReport) (hl : l < first ∨ first + count ≤ l) :
    (d.afterRead first count reports).flaw l = d.flaw l := by
  rw [Dram.afterRead, (Dram.keepLines_spec h first _).1, length_foundLines, if_neg (by omega)]

theorem Dram.get_afterRead {d : Dram} (h : d.wf = true) {first count i a : Nat}
    (reports : List LineReport) (hi : i < count) (ha : a / 32 = first + i) :
    Sparse.get (d.afterRead first count reports).bytes a =
      d.keptByte a (d.found (a / 32) (reports.getD i .clean)) := by
  rw [Dram.afterRead, (Dram.keepLines_spec h first _).2, length_foundLines, if_pos (by omega), ha,
    Nat.add_sub_cancel_left, getD_foundLines d first count reports hi]

theorem Dram.get_afterRead_outside {d : Dram} (h : d.wf = true) {first count a : Nat}
    (reports : List LineReport) (ha : ¬(first ≤ a / 32 ∧ a / 32 < first + count)) :
    Sparse.get (d.afterRead first count reports).bytes a = Sparse.get d.bytes a := by
  rw [Dram.afterRead, (Dram.keepLines_spec h first _).2, length_foundLines, if_neg ha]

/-- No byte changes but under an error that passed unseen. -/
theorem Dram.get_afterRead_same {d : Dram} (h : d.wf = true) {first count a : Nat}
    (reports : List LineReport)
    (hseen : ∀ i bytes, i < count → a / 32 = first + i →
      ¬d.Unreadable (first + i) (reports.getD i .clean) → reports.getD i .clean ≠ .unseen bytes) :
    Sparse.get (d.afterRead first count reports).bytes a = Sparse.get d.bytes a := by
  by_cases hin : first ≤ a / 32 ∧ a / 32 < first + count
  · have hi : a / 32 - first < count := by omega
    have ha : a / 32 = first + (a / 32 - first) := by omega
    rw [Dram.get_afterRead h reports hi ha]
    exact Dram.keptByte_found_same fun bytes hgood => hseen _ bytes hi ha (by rwa [← ha])
  · exact Dram.get_afterRead_outside h reports hin

/-- A line with an error that passed unseen holds the bytes read. -/
theorem Dram.get_afterRead_unseen {d : Dram} (h : d.wf = true) {first count i j : Nat}
    (reports : List LineReport) {bytes : List Byte} (hi : i < count)
    (hgood : ¬d.Unreadable (first + i) (reports.getD i .clean))
    (hunseen : reports.getD i .clean = .unseen bytes) (hlength : bytes.length = 32) (hj : j < 32) :
    Sparse.get (d.afterRead first count reports).bytes (32 * (first + i) + j) = bytes[j]? := by
  have hline : (32 * (first + i) + j) / 32 = first + i := by omega
  have hoffset : (32 * (first + i) + j) % 32 = j := by omega
  rw [hunseen, ← hline] at hgood
  rw [Dram.get_afterRead h reports hi hline, hunseen, Dram.keptByte_found_unseen h hgood, hoffset,
    List.getElem?_eq_getElem (by omega), Option.some_or]

/-- The worst condition is decided by how each line was read. -/
theorem Dram.classify_found (d : Dram) (first count : Nat) (reports : List LineReport) :
    (classify (d.foundLines first count reports) = .uncorrectable ↔
      ∃ i, i < count ∧ d.Unreadable (first + i) (reports.getD i .clean)) ∧
    (classify (d.foundLines first count reports) = .clean ↔
      ∀ i, i < count → ¬d.Unreadable (first + i) (reports.getD i .clean) ∧
        ¬d.Corrected (first + i) (reports.getD i .clean)) := by
  constructor
  · rw [classify_uncorrectable_iff, mem_foundLines]
    simp only [Dram.found_uncorrectable_iff]
  · simp only [classify_clean_iff, mem_foundLines, ← Dram.found_uncorrectable_iff,
      ← Dram.found_corrected_iff]
    constructor
    · exact fun hall i hi => hall _ ⟨i, hi, rfl⟩
    · rintro hall r ⟨i, hi, rfl⟩
      exact hall i hi

/-- Where the first line of the operation is the entry's, the data holds the bytes that its readable lines hold
afterwards. -/
theorem Dram.readBytes_afterRead {d : Dram} (h : d.wf = true) {first count start length i l : Nat}
    (reports : List LineReport) {b : Byte} (n : Nat) (hi : i < length) (hl : l < count)
    (hline : (start + i) / 32 = first + l) (hgood : ¬d.Unreadable (first + l) (reports.getD l .clean))
    (hget : Sparse.get (d.afterRead first count reports).bytes (start + i) = some b) :
    (d.readBytes n first start length (d.foundLines first count reports))[i]? = some b := by
  rw [getElem?_readBytes d n first start _ hi, hline, Nat.add_sub_cancel_left,
    getD_foundLines d first count reports hl, ← hline]
  rw [Dram.get_afterRead h reports hl hline] at hget
  rw [Dram.readByte_found h (by rwa [hline]) hget]

/-! ### The port is told (R109, R98, R188) -/

/-- Outside the port, no more than notices changed. -/
structure OnlyAt (p : Port) (s t : State) : Prop where
  rest : SameRest s t
  pool : t.pool = s.pool
  share : t.share = s.share
  role : t.role = s.role
  requests : ∀ q, q ≠ p → (t.port q).requests = (s.port q).requests
  link : ∀ q, q ≠ p → (t.port q).link = (s.port q).link
  session : ∀ q, q ≠ p → (t.port q).session = (s.port q).session
  aperture : ∀ q, q ≠ p → (t.port q).aperture = (s.port q).aperture

theorem OnlyAt.trans {p : Port} {s t u : State} (h : OnlyAt p s t) (g : OnlyAt p t u) : OnlyAt p s u :=
  ⟨h.rest.trans g.rest, g.pool.trans h.pool, g.share.trans h.share, g.role.trans h.role,
    fun q hq => (g.requests q hq).trans (h.requests q hq), fun q hq => (g.link q hq).trans (h.link q hq),
    fun q hq => (g.session q hq).trans (h.session q hq),
    fun q hq => (g.aperture q hq).trans (h.aperture q hq)⟩

theorem OnlyAt.modPort (s : State) (p : Port) (g : PortState → PortState) : OnlyAt p s (s.modPort p g) := by
  have hport : ∀ q, q ≠ p → (s.modPort p g).port q = s.port q := fun q hq => port_modPort_ne s hq g
  exact ⟨⟨rfl, rfl, rfl, rfl, rfl, rfl, rfl, rfl, rfl⟩, rfl, rfl, rfl, fun q hq => by rw [hport q hq],
    fun q hq => by rw [hport q hq], fun q hq => by rw [hport q hq], fun q hq => by rw [hport q hq]⟩

theorem OnlyAt.modRequests (s : State) (p : Port) (g : RequestUnit → RequestUnit) :
    OnlyAt p s (s.modRequests p g) :=
  .modPort s p _

theorem Quiet.onlyAt {s t : State} (h : Quiet s t) (hpool : t.pool = s.pool) (p : Port) : OnlyAt p s t :=
  ⟨h.settles.rest, hpool, h.share, h.settles.role, fun q _ => (h.settles.port q).requests,
    fun q _ => (h.settles.port q).link, fun q _ => (h.settles.port q).session, fun q _ => h.aperture q⟩

theorem raiseSessionEnded_onlyAt (s : State) (p : Port) (c : PortController) :
    OnlyAt p s (s.raiseSessionEnded p c) := by
  unfold State.raiseSessionEnded
  split
  · exact (enterNotice_quiet s p _).onlyAt rfl p
  · split
    · exact (enterNotice_quiet s p _).onlyAt rfl p
    · exact (Quiet.refl s).onlyAt rfl p

theorem endTeardown_onlyAt (s : State) (p : Port) : OnlyAt p s (s.endTeardown p) :=
  ((OnlyAt.modPort s p _).trans
    ((raisePortState_quiet _ p _ _).onlyAt (pool_raisePortState _ p _ _) p)).trans
      (raiseSessionEnded_onlyAt _ p _)

section
variable {s : State} {p : Port} {older younger : List Entry} {e : Entry}

/-- The discarded entry gone, in TEARDOWN. -/
def State.discarding (s : State) (p : Port) (left : List Entry) : State :=
  s.modRequests p fun r => { r with entries := left }

theorem entries_discarding (s : State) (p : Port) (left : List Entry) :
    ((s.discarding p left).port p).requests.entries = left := by
  simp [State.discarding]

theorem requestCompleted_teardown (g : Entry → Entry) (hstate : (s.port p).session.state = .teardown)
    (hentries : (s.port p).requests.entries = older ++ e :: younger) (he : e.state = .inMemory)
    (hold : ∀ x ∈ older, x.state ≠ .inMemory) :
    s.requestCompleted p g = (s.discarding p (older ++ younger)).endTeardownIfEmpty p := by
  rw [State.requestCompleted, if_pos hstate, State.discarding]
  congr 1
  refine modRequests_congr s ?_
  rw [hentries, removeFirst_first (by simp [Entry.inMem, he]) fun x hx => by simp [Entry.inMem, hold x hx]]

theorem requestCompleted_running (g : Entry → Entry) (hstate : (s.port p).session.state ≠ .teardown)
    (hentries : (s.port p).requests.entries = older ++ e :: younger) (he : e.state = .inMemory)
    (hold : ∀ x ∈ older, x.state ≠ .inMemory) :
    s.requestCompleted p g = s.modRequests p fun r =>
      ({ r with entries := barrierStep true (older ++ g e :: younger) }).present
        (s.port p).session.state := by
  rw [State.requestCompleted, if_neg hstate, modRequests_present]
  refine modRequests_congr s ?_
  rw [RequestUnit.complete, hentries, changeFirst_first _ (by simp [Entry.inMem, he]) fun x hx => by
    simp [Entry.inMem, hold x hx]]

theorem requestCompleted_onlyAt (s : State) (p : Port) (g : Entry → Entry) :
    OnlyAt p s (s.requestCompleted p g) := by
  unfold State.requestCompleted State.endTeardownIfEmpty
  split
  · split
    · exact (OnlyAt.modRequests s p _).trans (endTeardown_onlyAt _ p)
    · exact OnlyAt.modRequests s p _
  · exact (OnlyAt.modRequests s p _).trans (OnlyAt.modRequests _ p _)

end

theorem readDone_eq (e : Entry) (c : ReadClass) (data : List Byte) :
    e.readDone c data =
      if c = .uncorrectable then { e with state := .done, result := some .dataError, readData := none }
      else { e with state := .done, result := some .ok, readData := some data } := by
  cases c <;> rfl

/-! ### The completion -/

/-- The state that a READ_LINES completion hands to the port: the channel IDLE, the lines kept, the errors accounted, the
frame unpinned. -/
def State.readAccounted (s : State) (o : Operation) (reports : List LineReport) : State :=
  (({ s with
      inFlight := none
      dram := s.dram.afterRead (dramLine o.frame o.firstLine) o.lineCount reports
      freeIndex := s.freeIndex + 1 } : State).accountRead o.frame
    (classify (s.dram.foundLines (dramLine o.frame o.firstLine) o.lineCount reports))).unpin o.frame

/-- The bytes for the entry. -/
def State.readData (s : State) (p : Port) (o : Operation) (reports : List LineReport) : List Byte :=
  s.bytesRead p (s.dram.foundLines (dramLine o.frame o.firstLine) o.lineCount reports)

theorem readCompleted_eq (s : State) (p : Port) (o : Operation) (reports : List LineReport) :
    s.readCompleted p o reports = (s.readAccounted o reports).requestCompleted p fun e =>
      e.readDone (classify (s.dram.foundLines (dramLine o.frame o.firstLine) o.lineCount reports))
        (s.readData p o reports) := rfl

theorem readAccounted_quiet (s : State) (o : Operation) (reports : List LineReport) :
    Quiet
      { s with
        inFlight := none
        dram := s.dram.afterRead (dramLine o.frame o.firstLine) o.lineCount reports
        freeIndex := s.freeIndex + 1 }
      (s.readAccounted o reports) :=
  (accountRead_quiet _ _ _).trans (unpin_quiet _ _)

theorem readData_eq {s : State} {p : Port} {older younger : List Entry} {e : Entry} {tr : Translation}
    (hentries : (s.port p).requests.entries = older ++ e :: younger) (he : e.state = .inMemory)
    (hold : ∀ x ∈ older, x.state ≠ .inMemory) (htr : e.translation = some tr) (o : Operation)
    (reports : List LineReport) :
    s.readData p o reports = s.dram.readBytes s.freeIndex (dramLine tr.frame tr.firstLine)
      (dramAddress tr.frame tr.firstByte) tr.length
      (s.dram.foundLines (dramLine o.frame o.firstLine) o.lineCount reports) := by
  have hentry : (s.port p).requests.memoryEntry = some e := by
    rw [RequestUnit.memoryEntry, hentries]
    exact find?_first (by simp [Entry.inMem, he]) fun x hx => by simp [Entry.inMem, hold x hx]
  simp only [State.readData, State.bytesRead, State.memoryTranslation, hentry, htr]

/-- Settles O45: the lines by what was found in each, the pool by the accounting and the unpin, and the entry by the
port's session. -/
theorem readCompletionReturnsTheBytes : Obligations.ReadCompletionReturnsTheBytes := by
  refine ⟨fun d l => ⟨rfl, by simp [Dram.isFitted]⟩, ?_⟩
  intro s p o reports older younger e tr hrunning hcanonical hflight hparticipant hkind hentries he hold htr
    line report bad corrected worst
  have hexec : exec (.readLinesCompletion reports) s = .next (s.readCompleted p o reports) := by
    refine (whenRunning_high hrunning _).trans ?_
    simp only [hflight, hparticipant, hkind]
  have hwf := Canonical.dram_wf hcanonical
  have hquiet := readAccounted_quiet s o reports
  have honly : OnlyAt p (s.readAccounted o reports) (s.readCompleted p o reports) :=
    requestCompleted_onlyAt _ p _
  have hrest := hquiet.settles.rest.trans honly.rest
  have hdram := hrest.dram
  have hfree := hrest.freeIndex
  have hsession : ((s.readAccounted o reports).port p).session = (s.port p).session :=
    (hquiet.settles.port p).session
  have hrequests : ((s.readAccounted o reports).port p).requests = (s.port p).requests :=
    (hquiet.settles.port p).requests
  have hcompleted := readCompleted_eq s p o reports
  obtain ⟨first, hfirst⟩ : ∃ first, dramLine o.frame o.firstLine = first := ⟨_, rfl⟩
  have hline : ∀ i, line i = first + i := fun i => by
    rw [← hfirst]; simp only [line, dramLine, Config.frameLines]
  simp only [hfirst] at hdram hcompleted
  have hbad : ∀ i, bad i = s.dram.Unreadable (first + i) (reports.getD i .clean) := fun i => by
    rw [← hline]; rfl
  have hcorrected : ∀ i, corrected i = s.dram.Corrected (first + i) (reports.getD i .clean) := fun i => by
    simp only [corrected, hbad, hline]; rfl
  have hclass := s.dram.classify_found first o.lineCount reports
  refine ⟨_, classify (s.dram.foundLines first o.lineCount reports), hexec, ?_, hrest.inFlight, ?_,
    fun l hl => ?_, fun i hi => ?_, fun a ha => ?_, fun i bytes hi hgood hunseen hlength j hj => ?_,
    hrest.scheduler, hrest.now, fun q hq => ⟨?_, ?_, ?_, ?_⟩, ?_, honly.share.trans hquiet.share,
    honly.role.trans hquiet.settles.role, ?_⟩
  · simpa only [worst, hbad, hcorrected] using hclass
  · rw [hdram]
    exact Dram.fitted_keepLines _ _ _
  · simp only [hline, Nat.add_zero] at hl
    rw [hdram, Dram.flaw_afterRead_outside hwf reports hl]
  · rw [hbad, hcorrected, hline, hdram, Dram.flaw_afterRead hwf first reports hi]
    exact Dram.keptFlaw_found hwf _ _
  · simp only [hline, hbad] at ha
    rw [hdram]
    exact Dram.get_afterRead_same hwf reports ha
  · rw [hbad] at hgood
    rw [hline, hdram]
    exact Dram.get_afterRead_unseen hwf reports hi hgood hunseen hlength hj
  · exact (honly.requests q hq).trans (hquiet.settles.port q).requests
  · exact (honly.link q hq).trans (hquiet.settles.port q).link
  · exact (honly.session q hq).trans (hquiet.settles.port q).session
  · exact (honly.aperture q hq).trans (hquiet.aperture q)
  · refine honly.pool.trans ?_
    rw [State.readAccounted, hfirst]
    exact pool_unpin_congr (pool_accountRead_congr (by rfl) _ _) _
  intro accounted
  have haccounted : accounted = s.readAccounted o reports := by
    simp only [accounted, hdram, hfree, State.readAccounted, hfirst]
  rw [haccounted]
  rw [← hrequests] at hentries
  refine ⟨fun hteardown => ?_, fun hopen => ?_⟩
  · rw [hcompleted, requestCompleted_teardown _ (by rwa [hsession]) hentries he hold,
      State.endTeardownIfEmpty, entries_discarding]
    refine ⟨fun hleft => if_neg hleft, fun hnone => if_pos hnone, ?_⟩
    split
    · rw [entries_endTeardown, entries_discarding]
    · exact entries_discarding _ p _
  · have hrunning := requestCompleted_running (fun e => e.readDone
        (classify (s.dram.foundLines first o.lineCount reports)) (s.readData p o reports))
      (by rwa [hsession]) hentries he hold
    rw [← hcompleted, hsession] at hrunning
    have hunit := congrArg (fun t => (t.port p).requests) hrunning
    simp only [requests_modRequests_same, hrequests] at hunit
    rw [hrequests] at hentries
    have hdata := readData_eq hentries he hold htr o reports
    refine ⟨hrunning.trans (modRequests_congr _ (by rw [hrequests, hunit])), s.readData p o reports, ?_, ?_,
      fun i l b hi hl hsame haddress hgood hget => ?_⟩
    · rw [hunit, readDone_eq]
    · rw [hdata, length_readBytes]
    · rw [hbad] at hgood
      rw [hline] at haddress
      have hstart : dramLine tr.frame tr.firstLine = first := by
        rw [hline, Nat.add_zero] at hsame
        exact hsame.symm
      rw [hdram] at hget
      rw [hdata, hfirst, hstart]
      exact Dram.readBytes_afterRead hwf reports s.freeIndex hi hl haddress hgood hget

end Sys2Proof.Machine
end

section
/-! SUPPORT. Values in range, unit by unit: each unit's part of the ranges of the spec's tables, and that each shared
operation keeps them. -/

namespace Sys2Proof.Machine

/-! ### The ranges, unit by unit -/

/-- The counts of a Link Unit (R163, R170, R173). -/
structure LinkUnit.InRange (l : LinkUnit) : Prop where
  replay : l.replay.length ≤ 32
  timeouts : l.timeouts ≤ 3
  checkErrors : l.checkErrors ≤ 65535

/-- The class queues within their windows, the write lines, the burst limit, and the lines of each translation (R47, R84,
R94, R95). -/
structure RequestUnit.InRange (r : RequestUnit) : Prop where
  windows : ∀ c, (r.queue c).length ≤ windowOf c
  reservedLines : r.reservedLines ≤ 64
  burstLimit : 1 ≤ r.burstLimit ∧ r.burstLimit ≤ 16
  lines : ∀ e ∈ r.entries, ∀ t, e.translation = some t → 1 ≤ t.lineCount ∧ t.lineCount ≤ 8

/-- The queues and counts of a Transmit Unit (R142, R147, R151). -/
structure TransmitUnit.InRange (t : TransmitUnit) : Prop where
  refusals : t.refusals.length ≤ 8
  notices : t.notices.length ≤ 16
  lost : t.lost ≤ 255
  burst : t.burst ≤ 16

/-- The mapped count within the quota, and pages that the table has (R36, R38). -/
structure Aperture.InRange (a : Aperture) : Prop where
  mapped : a.slots.length ≤ a.quota
  quota : a.quota ≤ 4096
  pages : ∀ e ∈ a.slots, e.1 < 4096

/-- The ranges of one port. -/
structure PortState.InRange (q : PortState) : Prop where
  link : q.link.InRange
  requests : q.requests.InRange
  transmit : q.transmit.InRange
  aperture : q.aperture.InRange

/-- The error counts of a region (R21, R22). -/
structure Region.InRange (r : Region) : Prop where
  uncorrectable : r.uncorrectable ≤ 255
  corrected : r.corrected ≤ 65535

/-- The Pool Manager's counts (R11, R23). -/
structure PoolManager.InRange (q : PoolManager) : Prop where
  threshold : q.errorThreshold ≤ 255
  scrubDone : q.scrub.done ≤ 255
  regions : ∀ k : Slot, (q.regions[k]).InRange

/-- The Share Unit's (R56, R59). -/
structure ShareUnit.InRange (u : ShareUnit) : Prop where
  lifetime : 1 ≤ u.lifetime ∧ u.lifetime ≤ 1000
  offers : u.offers.length ≤ 16

/-- The Memory Scheduler's (R122). -/
structure Scheduler.InRange (c : Scheduler) : Prop where
  weights : ∀ x, 1 ≤ c.weight x ∧ c.weight x ≤ 64
  turnLines : c.turnLines ≤ 71

/-- Every value of the state in its range. -/
structure State.InRange (s : State) : Prop where
  ports : ∀ p, (s.port p).InRange
  pool : s.pool.InRange
  share : s.share.InRange
  scheduler : s.scheduler.InRange
  holdLimit : 1 ≤ s.holdLimit ∧ s.holdLimit ≤ 1000
  replayTimeout : 1 ≤ s.replayTimeout ∧ s.replayTimeout ≤ 100

/-- Unit by unit is property by property. -/
theorem inRange_iff (s : State) :
    s.InRange ↔ (∀ p, (s.port p).WithinBounds) ∧ s.LimitsInRange ∧ s.QuotasKept ∧ s.SchedulerInRange ∧
      s.PagesInRange := by
  constructor
  · intro h
    refine ⟨fun p => ?_, ?_, fun p => ⟨(h.ports p).aperture.mapped, (h.ports p).aperture.quota⟩,
      ⟨h.scheduler.weights, h.scheduler.turnLines, fun p => (h.ports p).requests.lines⟩,
      fun p => (h.ports p).aperture.pages⟩
    · obtain ⟨hlink, hrequests, htransmit, -⟩ := h.ports p
      exact ⟨hrequests.windows .expedited, hrequests.windows .ordinary, hrequests.reservedLines,
        htransmit.refusals, htransmit.notices, htransmit.lost, hrequests.burstLimit, htransmit.burst,
        hlink.replay, hlink.timeouts, hlink.checkErrors⟩
    · exact ⟨h.share.lifetime, h.holdLimit, h.pool.threshold, h.replayTimeout, h.share.offers,
        h.pool.scrubDone, fun k => (h.pool.regions k).uncorrectable, fun k => (h.pool.regions k).corrected⟩
  · rintro ⟨hbounds, hlimits, hquotas, hscheduler, hpages⟩
    refine ⟨fun p => ?_, ⟨hlimits.threshold, hlimits.scrubDone, fun k => ⟨hlimits.uncorrectable k,
      hlimits.corrected k⟩⟩, ⟨hlimits.lifetime, hlimits.offers⟩, ⟨hscheduler.weights, hscheduler.turnLines⟩,
      hlimits.holdLimit, hlimits.replayTimeout⟩
    have hp := hbounds p
    refine ⟨⟨hp.replay, hp.timeouts, hp.checkErrors⟩, ⟨fun c => ?_, hp.reservedLines, hp.burstLimit,
      hscheduler.lines p⟩, ⟨hp.refusals, hp.notices, hp.lost, hp.burst⟩, ⟨(hquotas p).1, (hquotas p).2,
      hpages p⟩⟩
    cases c with
    | expedited => exact hp.expedited
    | ordinary => exact hp.ordinary

/-! ### Entries that claim no more -/

/-- What an entry takes of its queue's window and of the memory. -/
def Entry.claim (e : Entry) : ReqClass × Option Translation := (e.cls, e.translation)

/-- The entries `es'` claim no more than `es` do. -/
def ClaimsNoMore (es es' : List Entry) : Prop := (es'.map Entry.claim).Sublist (es.map Entry.claim)

theorem ClaimsNoMore.of_sublist {es es' : List Entry} (h : es'.Sublist es) : ClaimsNoMore es es' :=
  h.map _

theorem ClaimsNoMore.of_eq {es es' : List Entry} (h : es'.map Entry.claim = es.map Entry.claim) :
    ClaimsNoMore es es' := by
  rw [ClaimsNoMore, h]

theorem length_queue_eq (r : RequestUnit) (c : ReqClass) :
    (r.queue c).length = (r.entries.map Entry.claim).countP fun x => x.1 == c := by
  rw [RequestUnit.queue, List.countP_map, ← List.countP_eq_length_filter]
  rfl

/-- A Request Unit whose entries claim no more stays in range. -/
theorem RequestUnit.InRange.of_claims {r r' : RequestUnit} (h : r.InRange)
    (hclaims : ClaimsNoMore r.entries r'.entries) (hlines : r'.reservedLines ≤ 64)
    (hburst : 1 ≤ r'.burstLimit ∧ r'.burstLimit ≤ 16) : r'.InRange := by
  refine ⟨fun c => ?_, hlines, hburst, fun e he t ht => ?_⟩
  · rw [length_queue_eq]
    refine le_trans hclaims.countP_le ?_
    rw [← length_queue_eq]
    exact h.windows c
  · have hmem : e.claim ∈ r.entries.map Entry.claim := hclaims.subset (List.mem_map_of_mem he)
    obtain ⟨e', he', hsame⟩ := List.mem_map.1 hmem
    exact h.lines e' he' t ((congrArg Prod.snd hsame).trans ht)

/-- A Request Unit that changes its entries alone. -/
theorem RequestUnit.InRange.entries {r : RequestUnit} (h : r.InRange) {es : List Entry}
    (hclaims : ClaimsNoMore r.entries es) : ({ r with entries := es } : RequestUnit).InRange :=
  h.of_claims hclaims h.reservedLines h.burstLimit

theorem RequestUnit.InRange.freeWriteLines {r : RequestUnit} (h : r.InRange) (count : Nat) :
    (r.freeWriteLines count).InRange :=
  h.of_claims (.of_sublist (.refl _)) (le_trans (Nat.sub_le _ _) h.reservedLines) h.burstLimit

theorem removeFirst_sublist (P : Entry → Bool) (es : List Entry) : (removeFirst P es).Sublist es := by
  induction es with
  | nil => exact .slnil
  | cons e es ih =>
    rw [removeFirst]
    split
    · exact List.sublist_cons_self e es
    · exact ih.cons_cons e

theorem map_claim_changeFirst (P : Entry → Bool) {g : Entry → Entry} (h : ∀ e, (g e).claim = e.claim)
    (es : List Entry) : (changeFirst P g es).map Entry.claim = es.map Entry.claim := by
  induction es with
  | nil => rfl
  | cons e es ih =>
    rw [changeFirst]
    split
    · rw [List.map_cons, List.map_cons, h]
    · rw [List.map_cons, List.map_cons, ih]

theorem map_claim_barrierStep (allDone : Bool) (es : List Entry) :
    (barrierStep allDone es).map Entry.claim = es.map Entry.claim := by
  induction es generalizing allDone with
  | nil => rfl
  | cons e es ih =>
    rw [barrierStep, List.map_cons, List.map_cons, ih]
    split <;> rfl

theorem RequestUnit.InRange.present {r : RequestUnit} (h : r.InRange) (st : SessionState) :
    (r.present st).InRange := by
  rcases present_spec r st with hsame | ⟨older, e, younger, hentries, -, -, -, -, -, hpresent⟩
  · rwa [hsame]
  · rw [hpresent]
    refine h.entries (.of_eq ?_)
    rw [hentries, List.map_append, List.map_append]
    rfl

theorem RequestUnit.InRange.complete {r : RequestUnit} (h : r.InRange) {g : Entry → Entry}
    (hg : ∀ e, (g e).claim = e.claim) : (r.complete g).InRange :=
  h.entries (.of_eq ((map_claim_barrierStep _ _).trans (map_claim_changeFirst _ hg _)))

/-- A new entry, for which its window has room. -/
theorem RequestUnit.InRange.accepted {r : RequestUnit} (h : r.InRange) {e : Entry}
    (hroom : (r.queue e.cls).length < windowOf e.cls)
    (hlines : ∀ t, e.translation = some t → 1 ≤ t.lineCount ∧ t.lineCount ≤ 8) :
    (r.accepted e).InRange := by
  have hadvance : (r.advance e.cls).reservedLines = r.reservedLines ∧
      (r.advance e.cls).burstLimit = r.burstLimit := by
    cases e.cls <;> exact ⟨rfl, rfl⟩
  refine ⟨fun c => ?_, hadvance.1.le.trans h.reservedLines, by
    rw [RequestUnit.accepted, hadvance.2]; exact h.burstLimit, fun x hx t ht => ?_⟩
  · have hqueue : (r.accepted e).queue c = r.queue c ++ if e.cls = c then [e] else [] := by
      by_cases hc : e.cls = c <;> simp [RequestUnit.accepted, RequestUnit.queue, hc]
    rw [hqueue]
    by_cases hc : e.cls = c
    · subst hc; simpa using hroom
    · simpa [hc] using h.windows c
  · rcases List.mem_append.1 hx with hx | hx
    · exact h.lines x hx t ht
    · rw [List.mem_singleton.1 hx] at ht
      exact hlines t ht

/-! ### The other units of a port -/

theorem TransmitUnit.InRange.enterNotice {t : TransmitUnit} (h : t.InRange) (n : Notice) :
    (t.enterNotice n).InRange := by
  by_cases hroom : t.notices.length < Config.noticePlaces
  · rw [enterNotice_room hroom]
    exact ⟨h.refusals, by rw [List.length_append]; exact Nat.succ_le_of_lt hroom, h.lost, h.burst⟩
  · rw [enterNotice_full hroom]
    exact ⟨h.refusals, h.notices, Nat.min_le_left _ _, h.burst⟩

/-- What is listed after an update was listed, or is what the update lists. -/
theorem Sparse.mem_set {α : Type} {l : Sparse α} {k : Nat} {v : Option α} {e : Nat × α}
    (h : e ∈ Sparse.set l k v) : e ∈ l ∨ (e.1 = k ∧ v = some e.2) := by
  have hentry : e ∈ Sparse.entry k v → e.1 = k ∧ v = some e.2 := by
    cases v with
    | none => simp [Sparse.entry]
    | some x => simp only [Sparse.entry, List.mem_singleton]; rintro rfl; exact ⟨rfl, rfl⟩
  induction l with
  | nil => exact .inr (hentry h)
  | cons d l ih =>
    obtain ⟨j, x⟩ := d
    rw [Sparse.set] at h
    split at h
    · exact (List.mem_append.1 h).elim (fun h => .inr (hentry h)) .inl
    · split at h
      · exact (List.mem_append.1 h).elim (fun h => .inr (hentry h)) fun h => .inl (List.mem_cons_of_mem _ h)
      · rcases List.mem_cons.1 h with rfl | h
        · exact .inl List.mem_cons_self
        · exact (ih h).imp_left (List.mem_cons_of_mem _)

theorem Aperture.InRange.released {a : Aperture} (h : a.InRange) (g : Nat) :
    ({ a with slots := Sparse.set a.slots g none } : Aperture).InRange :=
  ⟨le_trans (Sparse.length_set_none_le _ _) h.mapped, h.quota, fun e he =>
    (Sparse.mem_set he).elim (h.pages e) fun hnew => absurd hnew.2 (by simp)⟩

/-- A page that the table has, filled within the quota. -/
theorem Aperture.InRange.mapping {a : Aperture} (h : a.InRange) {g : Nat} (hpage : g < 4096)
    (hquota : a.slots.length < a.quota) (m : Mapping) :
    ({ a with slots := Sparse.set a.slots g (some m) } : Aperture).InRange :=
  ⟨le_trans (Sparse.length_set_le _ _ _) hquota, h.quota, fun e he =>
    (Sparse.mem_set he).elim (h.pages e) fun hnew => hnew.1 ▸ hpage⟩

/-! ### Updates of the state -/

section
variable {s : State} (h : s.InRange)
include h

theorem State.InRange.modPort {p : Port} {g : PortState → PortState} (hg : (g (s.port p)).InRange) :
    (s.modPort p g).InRange := by
  refine ⟨fun q => ?_, h.pool, h.share, h.scheduler, h.holdLimit, h.replayTimeout⟩
  by_cases hq : q = p
  · subst hq; rwa [port_modPort_same]
  · rw [port_modPort_ne s hq]; exact h.ports q

theorem State.InRange.modLink {p : Port} {g : LinkUnit → LinkUnit} (hg : (g (s.port p).link).InRange) :
    (s.modLink p g).InRange :=
  h.modPort ⟨hg, (h.ports p).requests, (h.ports p).transmit, (h.ports p).aperture⟩

theorem State.InRange.modSession (p : Port) (g : PortController → PortController) :
    (s.modSession p g).InRange :=
  h.modPort ⟨(h.ports p).link, (h.ports p).requests, (h.ports p).transmit, (h.ports p).aperture⟩

theorem State.InRange.modRequests {p : Port} {g : RequestUnit → RequestUnit}
    (hg : (g (s.port p).requests).InRange) : (s.modRequests p g).InRange :=
  h.modPort ⟨(h.ports p).link, hg, (h.ports p).transmit, (h.ports p).aperture⟩

theorem State.InRange.modTransmit {p : Port} {g : TransmitUnit → TransmitUnit}
    (hg : (g (s.port p).transmit).InRange) : (s.modTransmit p g).InRange :=
  h.modPort ⟨(h.ports p).link, (h.ports p).requests, hg, (h.ports p).aperture⟩

theorem State.InRange.modAperture {p : Port} {g : Aperture → Aperture}
    (hg : (g (s.port p).aperture).InRange) : (s.modAperture p g).InRange :=
  h.modPort ⟨(h.ports p).link, (h.ports p).requests, (h.ports p).transmit, hg⟩

theorem State.InRange.send (p : Port) (f : LinkFrame) : (s.send p f).InRange :=
  h.modPort ⟨(h.ports p).link, (h.ports p).requests, (h.ports p).transmit, (h.ports p).aperture⟩

theorem State.InRange.modPool {g : PoolManager → PoolManager} (hg : (g s.pool).InRange) :
    (s.modPool g).InRange :=
  ⟨h.ports, hg, h.share, h.scheduler, h.holdLimit, h.replayTimeout⟩

theorem State.InRange.modShare {g : ShareUnit → ShareUnit} (hg : (g s.share).InRange) :
    (s.modShare g).InRange :=
  ⟨h.ports, h.pool, hg, h.scheduler, h.holdLimit, h.replayTimeout⟩

theorem State.InRange.withRole (r : AdminRole) : ({ s with role := r } : State).InRange :=
  ⟨h.ports, h.pool, h.share, h.scheduler, h.holdLimit, h.replayTimeout⟩

theorem State.InRange.reachTime (d : Nat) : (s.reachTime d).InRange :=
  ⟨h.ports, h.pool, h.share, h.scheduler, h.holdLimit, h.replayTimeout⟩

theorem State.InRange.present (p : Port) : (s.present p).InRange :=
  h.modRequests ((h.ports p).requests.present _)

/-! ### Notices -/

theorem State.InRange.enterNotice (p : Port) (n : Notice) : (s.enterNotice p n).InRange :=
  h.modTransmit ((h.ports p).transmit.enterNotice n)

theorem State.InRange.raiseNotice (p : Port) (n : Notice) : (s.raiseNotice p n).InRange := by
  unfold State.raiseNotice
  split
  · exact h.enterNotice p n
  · exact h

theorem State.InRange.raiseForAdmin (n : Notice) : (s.raiseForAdmin n).InRange := by
  unfold State.raiseForAdmin
  split
  · exact h.raiseNotice _ n
  · exact h
  · exact h

theorem State.InRange.raisePortState (p : Port) (st : SessionState) (c : SessionCause) :
    (s.raisePortState p st c).InRange := by
  unfold State.raisePortState
  split
  · exact h
  · exact h.raiseForAdmin _

end

/-- A fold of operations that keep the ranges keeps them. -/
theorem State.InRange.foldl {β : Type} {f : State → β → State}
    (hf : ∀ s b, s.InRange → (f s b).InRange) (l : List β) {s : State} (h : s.InRange) :
    (l.foldl f s).InRange := by
  induction l generalizing s with
  | nil => exact h
  | cons b l ih => exact ih (hf s b h)

theorem State.InRange.raiseAdminChanged {s : State} (h : s.InRange) (holder : Option Port) :
    (s.raiseAdminChanged holder).InRange :=
  .foldl (fun _ p ht => ht.raiseNotice p _) allPorts h

theorem State.InRange.raiseOfferNotices {s : State} (h : s.InRange) (offers : List Offer)
    (note : Offer → Port × Notice) : (s.raiseOfferNotices offers note).InRange :=
  .foldl (fun _ _ ht => ht.raiseNotice _ _) offers h

/-! ### The Pool Manager -/

theorem settleScrub_done_le (q : PoolManager) : q.settleScrub.scrub.done ≤ q.scrub.done := by
  by_cases hhead : q.scrub.head = q.scrubQueue.head?
  · by_cases hop : q.scrub.op = .idle
    · rw [PoolManager.scrub_settleScrub_idle hhead hop]
    · rw [PoolManager.scrub_settleScrub_busy hhead hop]
  · rw [PoolManager.scrub_settleScrub_newHead hhead]
    exact Nat.zero_le _

theorem PoolManager.InRange.settleScrub {q : PoolManager} (h : q.InRange) : q.settleScrub.InRange := by
  have hdone := le_trans (settleScrub_done_le q) h.scrubDone
  rw [PoolManager.settleScrub_eq]
  exact ⟨h.threshold, hdone, h.regions⟩

theorem foldl_putState_inRange {q : PoolManager} (h : q.InRange) (state : FrameState) (l : List Nat) :
    (l.foldl (PoolManager.putState state) q).InRange := by
  rw [foldl_putState_eq]
  exact ⟨h.threshold, h.scrubDone, h.regions⟩

/-- A completion of the Scrubber counts no more than 255 blocks (R11, R13). -/
theorem PoolManager.InRange.scrubCompleted {q : PoolManager} (h : q.InRange) (f : Nat) :
    (q.scrubCompleted f).InRange := by
  by_cases hhead : q.scrub.head = some f
  · by_cases hdone : q.scrub.done + 1 = 256
    · rw [scrubCompleted_finished hhead hdone]
      exact PoolManager.InRange.settleScrub ⟨h.threshold, h.scrubDone, h.regions⟩
    · rw [scrubCompleted_counted hhead hdone]
      have hless := h.scrubDone
      exact PoolManager.InRange.settleScrub ⟨h.threshold, by simp only [PoolManager.scrubIdle]; omega,
        h.regions⟩
  · rw [scrubCompleted_discarded hhead]
    exact PoolManager.InRange.settleScrub ⟨h.threshold, h.scrubDone, h.regions⟩

section
variable {s : State} (h : s.InRange)
include h

theorem State.InRange.region (k : Slot) : (s.region k).InRange := h.pool.regions k

theorem State.InRange.setFrame (f : Nat) (r : FrameRecord) : (s.setFrame f r).InRange :=
  h.modPool ⟨h.pool.threshold, h.pool.scrubDone, h.pool.regions⟩

theorem State.InRange.modRegion {k : Slot} {g : Region → Region} (hg : (g (s.region k)).InRange) :
    (s.modRegion k g).InRange := by
  refine h.modPool ⟨h.pool.threshold, h.pool.scrubDone, fun j => ?_⟩
  change ((s.modRegion k g).region j).InRange
  by_cases hj : j = k
  · subst hj; rwa [region_modRegion_same]
  · rw [region_modRegion_ne s hj]; exact h.region j

/-- A change of a region that keeps its error counts. -/
theorem State.InRange.modRegion_counts {k : Slot} {g : Region → Region}
    (huncorrectable : (g (s.region k)).uncorrectable = (s.region k).uncorrectable)
    (hcorrected : (g (s.region k)).corrected = (s.region k).corrected) : (s.modRegion k g).InRange :=
  h.modRegion ⟨huncorrectable.le.trans (h.region k).uncorrectable,
    hcorrected.le.trans (h.region k).corrected⟩

theorem State.InRange.settleScrub : s.settleScrub.InRange := h.modPool h.pool.settleScrub

theorem State.InRange.retireRegion (k : Slot) : (s.retireRegion k).InRange :=
  (h.modRegion_counts rfl rfl).raiseForAdmin _

theorem State.InRange.countRetired (k : Slot) : (s.countRetired k).InRange :=
  h.modRegion_counts rfl rfl

theorem State.InRange.afterRetired (k : Slot) : (s.afterRetired k).InRange := by
  rcases afterRetired_eq s k with ⟨-, heq⟩ | ⟨-, heq⟩
  · rw [heq]; exact (h.countRetired k).retireRegion k
  · rw [heq]; exact h.countRetired k

theorem State.InRange.retireFrame (f : Nat) : (s.retireFrame f).InRange := by
  unfold State.retireFrame
  simp only
  split
  · exact (h.setFrame f _).afterRetired _
  · exact h.setFrame f _

theorem State.InRange.queueScrub (f : Nat) : (s.queueScrub f).InRange :=
  ((h.setFrame f _).modPool ⟨h.pool.threshold, h.pool.scrubDone, h.pool.regions⟩).settleScrub

theorem State.InRange.dispose (f : Nat) : (s.dispose f).InRange := by
  unfold State.dispose
  split
  · exact h.retireFrame f
  · exact h.queueScrub f

theorem State.InRange.settleFrame (f : Nat) : (s.settleFrame f).InRange := by
  unfold State.settleFrame
  simp only
  split
  · split
    · split
      · exact h.dispose f
      · exact h.setFrame f _
    · exact h
  · exact h

theorem State.InRange.take (p : Port) (count : Nat) : (s.take p count).InRange :=
  .foldl (fun _ f ht => ht.setFrame f _) _
    (h.modPool ⟨h.pool.threshold, h.pool.scrubDone, h.pool.regions⟩)

theorem State.InRange.hold (f : Nat) : (s.hold f).InRange := h.setFrame f _

theorem State.InRange.unhold (f : Nat) : (s.unhold f).InRange := (h.setFrame f _).settleFrame f

theorem State.InRange.pin (f : Nat) : (s.pin f).InRange := h.setFrame f _

theorem State.InRange.unpin (f : Nat) : (s.unpin f).InRange := (h.setFrame f _).settleFrame f

theorem State.InRange.startDrain (k : Slot) (cause : DrainCause) : (s.startDrain k cause).InRange := by
  have hmark : (s.markDraining k cause).InRange := (h.modRegion_counts rfl rfl).raiseForAdmin _
  have hdrained : (s.drained k cause).InRange := by
    refine ((hmark.modPool ?_).modRegion_counts rfl rfl).settleScrub
    have hfold := foldl_putState_inRange hmark.pool .retired ((s.markDraining k cause).unheldFrames k)
    exact ⟨hfold.threshold, hfold.scrubDone, hfold.regions⟩
  rw [startDrain_eq]
  split
  · exact hdrained.retireRegion k
  · exact hdrained

theorem State.InRange.bringOnline (k : Slot) : (s.bringOnline k).InRange := by
  refine ((h.modRegion_counts rfl rfl).modPool ?_).settleScrub
  have hfold := foldl_putState_inRange (h.modRegion_counts (k := k)
    (g := fun r => { r with state := .online }) rfl rfl).pool .scrubbing (s.regionFrames k)
  exact ⟨hfold.threshold, hfold.scrubDone, hfold.regions⟩

theorem State.InRange.poison (f : Nat) : (s.poison f).InRange := by
  unfold State.poison
  split
  · exact h
  · exact (h.setFrame f _).raiseForAdmin _

theorem State.InRange.countUncorrectable (k : Slot) : (s.countUncorrectable k).InRange := by
  by_cases hcount : (s.region k).uncorrectable < 255
  · have hcounted : (s.countedUncorrectable k).InRange :=
      h.modRegion ⟨hcount, (h.region k).corrected⟩
    by_cases hreach : s.reachesThreshold k
    · rw [countUncorrectable_drains hcount hreach]
      exact hcounted.startDrain k _
    · rwa [countUncorrectable_counts hcount hreach]
  · rwa [countUncorrectable_saturated (Nat.not_lt.1 hcount)]

theorem State.InRange.accountRead (f : Nat) (c : ReadClass) : (s.accountRead f c).InRange := by
  cases c with
  | clean => exact h
  | corrected =>
    simp only [State.accountRead]
    split
    · exact h.modRegion ⟨(h.region _).uncorrectable, Nat.min_le_left _ _⟩
    · exact h
  | uncorrectable =>
    simp only [State.accountRead]
    split
    · exact (h.poison f).countUncorrectable _
    · exact h.poison f

end

end Sys2Proof.Machine
end

section
/-! SUPPORT. Values in range: offers and pages, sessions, links, and one step. -/

namespace Sys2Proof.Machine

/-! ### Offers and pages -/

theorem ShareUnit.InRange.removeOffers {u : ShareUnit} (h : u.InRange) (gone : Offer → Bool) :
    (u.removeOffers gone).InRange :=
  ⟨h.lifetime, le_trans (List.length_filter_le _ _) h.offers⟩

section
variable {s : State} (h : s.InRange)
include h

theorem State.InRange.removeOffer (n : Byte) : (s.removeOffer n).InRange :=
  h.modShare (h.share.removeOffers _)

theorem State.InRange.withdrawForPage (p : Port) (g : Nat) : (s.withdrawForPage p g).InRange :=
  (h.modShare (h.share.removeOffers _)).raiseOfferNotices _ _

theorem State.InRange.removeOffersOf (p : Port) : (s.removeOffersOf p).InRange :=
  (h.modShare (h.share.removeOffers _)).raiseOfferNotices _ _

theorem State.InRange.createOffer (hroom : s.share.offers.length < 16) (o : Offer) :
    (s.createOffer o).InRange :=
  (h.modShare ⟨h.share.lifetime, by rw [List.length_append]; exact hroom⟩).raiseNotice _ _

theorem State.InRange.clearSlot (p : Port) (g : Nat) : (s.setSlot p g none).InRange :=
  h.modAperture ((h.ports p).aperture.released g)

theorem State.InRange.fillSlot {p : Port} {g : Nat} (hpage : g < 4096)
    (hquota : s.mappedCount p < (s.port p).aperture.quota) (m : Mapping) :
    (s.setSlot p g (some m)).InRange :=
  h.modAperture ((h.ports p).aperture.mapping hpage hquota m)

theorem State.InRange.releasePage (p : Port) (g : Nat) : (s.releasePage p g).InRange := by
  unfold State.releasePage
  split
  · exact h
  · exact ((h.withdrawForPage p g).clearSlot p g).unhold _

theorem State.InRange.releasePages (p : Port) (gs : List Nat) : (s.releasePages p gs).InRange :=
  .foldl (fun _ g ht => ht.releasePage p g) gs h

theorem State.InRange.releaseAll (p : Port) : (s.releaseAll p).InRange := h.releasePages p _

end

theorem quota_setSlot (s : State) (p : Port) (g : Nat) (m : Option Mapping) :
    ((s.setSlot p g m).port p).aperture.quota = (s.port p).aperture.quota := by
  simp [State.setSlot]

theorem mappedCount_setSlot_le (s : State) (p : Port) (g : Nat) (m : Option Mapping) :
    (s.setSlot p g m).mappedCount p ≤ s.mappedCount p + 1 := by
  rw [State.mappedCount, State.setSlot, aperture_modAperture_same]
  exact Sparse.length_set_le _ _ _

/-- Frames mapped to pages that the table has, within the quota. -/
theorem State.InRange.mapFrames {s : State} (h : s.InRange) {p : Port} {g : Nat} {fs : List Nat}
    (hpages : g + fs.length ≤ 4096)
    (hquota : s.mappedCount p + fs.length ≤ (s.port p).aperture.quota) :
    (s.mapFrames p g fs).InRange := by
  induction fs generalizing s g with
  | nil => exact h
  | cons f fs ih =>
    rw [List.length_cons] at hpages hquota
    have hmapped := mappedCount_setSlot_le s p g
      (some { frame := f, rights := .rw, origin := .allocated })
    refine ih (h.fillSlot (by omega) (by omega) _) (by omega) ?_
    rw [quota_setSlot]
    omega

/-! ### Sessions (R184 to R193) -/

section
variable {s : State} (h : s.InRange)
include h

theorem State.InRange.giveRole (p : Port) : (s.giveRole p).InRange :=
  (h.withRole _).raiseAdminChanged _

theorem State.InRange.discardEntry (p : Port) (e : Entry) : (s.discardEntry p e).InRange := by
  unfold State.discardEntry
  split
  · split
    · split
      · exact (h.modRequests ((h.ports p).requests.freeWriteLines _)).unpin _
      · exact h.unpin _
    · exact h
  · exact h

theorem State.InRange.tearQueues (p : Port) : (s.tearQueues p).InRange := by
  have hdiscarded := State.InRange.foldl (f := fun t e => t.discardEntry p e)
    (fun _ e ht => ht.discardEntry p e) (s.port p).requests.teardownOrder h
  exact hdiscarded.modRequests ((hdiscarded.ports p).requests.entries (.of_sublist List.filter_sublist))

theorem State.InRange.vacateRole (p : Port) : (s.vacateRole p).InRange := by
  unfold State.vacateRole
  split
  · exact (h.withRole _).raiseAdminChanged _
  · exact h

theorem State.InRange.raiseSessionEnded (p : Port) (c : PortController) :
    (s.raiseSessionEnded p c).InRange := by
  unfold State.raiseSessionEnded
  split
  · exact h.enterNotice p _
  · split
    · exact h.enterNotice p _
    · exact h

theorem State.InRange.endTeardown (p : Port) : (s.endTeardown p).InRange :=
  ((h.modSession p _).raisePortState p _ _).raiseSessionEnded p _

theorem State.InRange.endTeardownIfEmpty (p : Port) : (s.endTeardownIfEmpty p).InRange := by
  unfold State.endTeardownIfEmpty
  split
  · exact h.endTeardown p
  · exact h

theorem State.InRange.clearForTeardown (p : Port) :
    (s.modTransmit p TransmitUnit.clearForTeardown).InRange :=
  h.modTransmit ⟨Nat.zero_le _, Nat.zero_le _, Nat.zero_le _, Nat.zero_le _⟩

theorem State.InRange.startTeardown (p : Port) (cause : TeardownCause) :
    (s.startTeardown p cause).InRange :=
  ((((((h.modSession p _).clearForTeardown p).tearQueues p).removeOffersOf p).vacateRole p).releaseAll
    p).endTeardownIfEmpty p

theorem State.InRange.disable (q : Port) : (s.disable q).InRange := by
  unfold State.disable
  split
  · exact h.startTeardown q _
  · exact h.startTeardown q _
  · exact h.modSession q _
  · exact (h.modSession q _).raisePortState q _ _
  · exact h

end

/-! ### Links (Chapter 8) -/

section
variable {l : LinkUnit} (h : l.InRange)
include h

theorem LinkUnit.InRange.startHello (st : LinkState) (now : Nat) : (l.startHello st now).InRange := by
  cases st <;> exact ⟨h.replay, h.timeouts, h.checkErrors⟩

theorem LinkUnit.InRange.enterUp : l.enterUp.InRange := ⟨Nat.zero_le _, Nat.zero_le _, h.checkErrors⟩

theorem LinkUnit.InRange.lose (st : LinkState) (now : Nat) : (l.lose st now).InRange := by
  cases st <;> exact ⟨Nat.zero_le _, Nat.zero_le _, h.checkErrors⟩

theorem LinkUnit.InRange.outOfSequence : l.outOfSequence.InRange := by
  unfold LinkUnit.outOfSequence
  split
  · exact h
  · exact ⟨h.replay, h.timeouts, h.checkErrors⟩

theorem LinkUnit.InRange.free {rest : List LinkFrame} (hrest : rest.length ≤ l.replay.length)
    (now timeout : Nat) : (l.free rest now timeout).InRange := by
  have hreplay := le_trans hrest h.replay
  unfold LinkUnit.free
  simp only
  split
  · exact ⟨hreplay, Nat.zero_le _, h.checkErrors⟩
  · exact ⟨hreplay, h.timeouts, h.checkErrors⟩

end

theorem length_freeThrough_le (seq : Byte) (fs : List LinkFrame) :
    (freeThrough seq fs).length ≤ fs.length := by
  induction fs with
  | nil => exact le_rfl
  | cons f fs ih =>
    rw [freeThrough, List.length_cons]
    split
    · exact Nat.le_succ _
    · exact Nat.le_succ_of_le ih

theorem length_freeBefore_le (seq : Byte) (fs : List LinkFrame) :
    (freeBefore seq fs).length ≤ fs.length := by
  induction fs with
  | nil => exact le_rfl
  | cons f fs ih =>
    rw [freeBefore]
    split
    · exact le_rfl
    · exact Nat.le_succ_of_le ih

section
variable {l : LinkUnit} (h : l.InRange)
include h

theorem LinkUnit.InRange.acknowledge (value : Byte) (now timeout : Nat) :
    (l.acknowledge value now timeout).InRange := by
  unfold LinkUnit.acknowledge
  split
  · exact h.free (length_freeThrough_le _ _) now timeout
  · exact h

theorem LinkUnit.InRange.negative (value : Byte) (now timeout : Nat) :
    (l.negative value now timeout).InRange := by
  unfold LinkUnit.negative
  split
  · have hfree := h.free (length_freeBefore_le value l.replay) now timeout
    exact ⟨hfree.replay, hfree.timeouts, hfree.checkErrors⟩
  · split
    · have hfree := h.free (rest := []) (Nat.zero_le _) now timeout
      exact ⟨hfree.replay, hfree.timeouts, hfree.checkErrors⟩
    · exact h

theorem LinkUnit.InRange.keep (hroom : l.replay.length < 32) (f : LinkFrame) (now timeout : Nat) :
    (l.keep f now timeout).InRange :=
  ⟨by rw [LinkUnit.keep, List.length_append]; exact hroom, h.timeouts, h.checkErrors⟩

theorem LinkUnit.InRange.moveOn : l.moveOn.InRange := by
  unfold LinkUnit.moveOn
  split
  · exact ⟨h.replay, h.timeouts, h.checkErrors⟩
  · exact h

end

theorem TransmitUnit.InRange.setHold {t : TransmitUnit} (h : t.InRange) (bit : Bool) (now limit : Nat) :
    (t.setHold bit now limit).InRange := by
  unfold TransmitUnit.setHold
  cases t.hold <;> cases bit <;> exact ⟨h.refusals, h.notices, h.lost, h.burst⟩

section
variable {s : State} (h : s.InRange)
include h

theorem State.InRange.enterUp (p : Port) : (s.modLink p LinkUnit.enterUp).InRange :=
  h.modLink (h.ports p).link.enterUp

theorem State.InRange.startHello (p : Port) (st : LinkState) (now : Nat) :
    (s.modLink p fun l => l.startHello st now).InRange :=
  h.modLink ((h.ports p).link.startHello st now)

/-- A change of a Link Unit that keeps its counts. -/
theorem State.InRange.modLink_counts {p : Port} {g : LinkUnit → LinkUnit}
    (hreplay : (g (s.port p).link).replay = (s.port p).link.replay)
    (htimeouts : (g (s.port p).link).timeouts = (s.port p).link.timeouts)
    (herrors : (g (s.port p).link).checkErrors = (s.port p).link.checkErrors) : (s.modLink p g).InRange :=
  h.modLink ⟨hreplay ▸ (h.ports p).link.replay, htimeouts ▸ (h.ports p).link.timeouts,
    herrors ▸ (h.ports p).link.checkErrors⟩

theorem State.InRange.outOfSequence (p : Port) : (s.modLink p LinkUnit.outOfSequence).InRange :=
  h.modLink (h.ports p).link.outOfSequence

theorem State.InRange.loseLink (p : Port) (st : LinkState) : (s.loseLink p st).InRange := by
  have hcleared : ((s.modLink p fun l => l.lose st s.now).modTransmit p
      TransmitUnit.clearForLinkLoss).InRange :=
    (h.modLink ((h.ports p).link.lose st s.now)).modTransmit
      ⟨Nat.zero_le _, Nat.zero_le _, Nat.zero_le _, Nat.zero_le _⟩
  unfold State.loseLink
  simp only
  split
  · exact hcleared.startTeardown p _
  · exact hcleared

theorem State.InRange.ackInUp (p : Port) (value : Byte) (hold : Bool) : (s.ackInUp p value hold).InRange :=
  have hacknowledged : (s.modLink p fun l => l.acknowledge value s.now (ticks s.replayTimeout)).InRange :=
    h.modLink ((h.ports p).link.acknowledge _ _ _)
  hacknowledged.modTransmit ((hacknowledged.ports p).transmit.setHold _ _ _)

theorem State.InRange.nakInUp (p : Port) (value : Byte) : (s.nakInUp p value).InRange :=
  h.modLink ((h.ports p).link.negative _ _ _)

/-- A refusal that has room. -/
theorem State.InRange.refused {p : Port} (hroom : (s.port p).transmit.refusals.length < 8)
    (r : RefusalRecord) :
    (s.modTransmit p fun t => { t with refusals := t.refusals ++ [r] }).InRange :=
  h.modTransmit ⟨by rw [List.length_append]; exact hroom, (h.ports p).transmit.notices,
    (h.ports p).transmit.lost, (h.ports p).transmit.burst⟩

end

/-! ### New sequenced frames (R136 to R142) -/

/-- An Ordinary reply that is ready is of its class. -/
theorem cls_ordinaryReady {q : PortState} {e : Entry} (h : q.ordinaryReady = some e) :
    e.cls = .ordinary := by
  unfold PortState.ordinaryReady RequestUnit.doneHead RequestUnit.head at h
  split at h
  · simp at h
  · split at h
    · rename_i x hx
      split at h
      · cases h
        have hmem := List.mem_of_mem_head? hx
        simpa using (List.mem_filter.1 hmem).2
      · simp at h
    · simp at h

/-- The burst count rises below its limit only (R137, R142). -/
theorem burstAfter_le {q : PortState} (h : q.InRange) {e : Entry} (hsource : q.source = some (.reply e)) :
    burstAfter q.transmit.burst e.cls q.ordinaryReady.isSome ≤ 16 := by
  have hburst := h.transmit.burst
  have hlimit := h.requests.burstLimit
  cases hcls : e.cls with
  | ordinary => exact Nat.zero_le _
  | expedited =>
    simp only [burstAfter]
    split
    · rename_i hready
      by_cases hdue : q.requests.burstLimit ≤ q.transmit.burst
      · obtain ⟨x, hx⟩ := Option.isSome_iff_exists.1 hready
        have hturn : q.burstTurn = some x := by rw [PortState.burstTurn, if_pos hdue, hx]
        simp only [PortState.source, hturn, Option.some.injEq, Source.reply.injEq] at hsource
        rw [← hsource, cls_ordinaryReady hx] at hcls
        cases hcls
      · omega
    · exact hburst

theorem PortState.InRange.giveUp {q : PortState} (h : q.InRange) {x : Source} (hx : q.source = some x) :
    (q.giveUp x).InRange := by
  obtain ⟨hlink, hrequests, htransmit, haperture⟩ := h
  have hdrop : ∀ {α : Type} (l : List α) {n : Nat}, l.length ≤ n → (l.drop 1).length ≤ n :=
    fun l n hl => by rw [List.length_drop]; omega
  cases x with
  | reply e =>
    exact ⟨hlink, hrequests.entries (.of_sublist (removeFirst_sublist _ _)), ⟨htransmit.refusals,
      htransmit.notices, htransmit.lost, burstAfter_le ⟨hlink, hrequests, htransmit, haperture⟩ hx⟩,
      haperture⟩
  | refusal r =>
    exact ⟨hlink, hrequests, ⟨hdrop _ htransmit.refusals, htransmit.notices, htransmit.lost,
      htransmit.burst⟩, haperture⟩
  | notice n =>
    exact ⟨hlink, hrequests, ⟨htransmit.refusals, hdrop _ htransmit.notices, Nat.zero_le _,
      htransmit.burst⟩, haperture⟩

theorem link_giveUp (q : PortState) (x : Source) : (q.giveUp x).link = q.link := by
  cases x <;> rfl

theorem State.InRange.transmitNew {s : State} (h : s.InRange) (p : Port) : (s.transmitNew p).InRange := by
  unfold State.transmitNew
  split
  · rename_i htake
    have hroom : (s.port p).link.replay.length < 32 := by
      simp only [LinkUnit.canTakeNew, Bool.and_eq_true, decide_eq_true_eq] at htake
      exact htake.1.2
    split
    · rename_i x hx
      have hhanded : (s.handOver p x).InRange := by
        have hgiven : (s.modPort p fun q => q.giveUp x).InRange := h.modPort ((h.ports p).giveUp hx)
        refine (hgiven.modLink ((hgiven.ports p).link.keep ?_ _ _ _)).send p _
        rwa [port_modPort_same, link_giveUp]
      unfold State.afterReply
      split
      · split
        · exact hhanded.startTeardown p _
        · exact hhanded
      · exact hhanded
      · exact hhanded
    · exact h
  · exact h

/-! ### Request frames (R78 to R94) -/

/-- What arrives and is accepted keeps the ranges; so do a refusal and a frame that is not taken. -/
theorem State.InRange.requestArrives {s : State} (h : s.InRange) {p : Port} {k : RequestKind}
    {f : RequestFrame} {accept : State → State}
    (haccept : ∀ u, u.InRange → u.refusalOf p k f = none → (accept u).InRange) :
    (s.requestArrives p k f accept).InRange :=
  requestArrives_induct (P := State.InRange) h (fun _ => h.enterUp p)
    (fun _ hu => hu.modLink_counts rfl rfl rfl) (fun _ hu => hu.modLink_counts rfl rfl rfl)
    (fun _ hu => hu.outOfSequence p) (fun _ r hu hroom => hu.refused hroom r) haccept

/-- What passed the checks has room in its window, and for its write lines. -/
theorem room_of_refusalOf_none {s : State} {p : Port} {k : RequestKind} {f : RequestFrame}
    (h : s.refusalOf p k f = none) :
    ((s.port p).requests.queue (frameClass f)).length < windowOf (frameClass f) ∧
      s.dataFull p k f = false := by
  unfold State.refusalOf State.refusalAfterDecode at h
  split at h
  · split at h
    · simp at h
    · split at h
      · simp at h
      · split at h
        · simp at h
        · split at h
          · simp at h
          · rename_i hwindow
            split at h
            · simp at h
            · rename_i hdata
              exact ⟨by simpa [State.windowFull] using hwindow, by simpa using hdata⟩
  · simp at h

/-- An entry that joins a queue with room. -/
theorem State.InRange.enqueue {s : State} (h : s.InRange) {p : Port} {e : Entry}
    (hroom : ((s.port p).requests.queue e.cls).length < windowOf e.cls)
    (hlines : ∀ t, e.translation = some t → 1 ≤ t.lineCount ∧ t.lineCount ≤ 8) :
    (s.enqueue p e).InRange :=
  State.InRange.present (h.modRequests ((h.ports p).requests.accepted hroom hlines)) p

/-- A request that acts at acceptance. -/
theorem State.InRange.acceptDone {s : State} {p : Port} {k : RequestKind} {f : RequestFrame}
    {act : State → Answer} (h : (act s).state.InRange) (hacted : Acted p k s (act s).state)
    (hpasses : s.refusalOf p k f = none) : (s.acceptDone p k f act).InRange := by
  refine h.enqueue (p := p) ?_ (fun t ht => absurd ht (by simp [State.newEntry]))
  have hroom := (room_of_refusalOf_none hpasses).1
  rwa [RequestUnit.queue, ← hacted.entries] at hroom

/-- A request that acts at acceptance and whose action keeps the ranges. -/
theorem State.InRange.acting {s : State} (h : s.InRange) {p : Port} {k : RequestKind} {f : RequestFrame}
    {act : State → Answer} (hact : ∀ u, u.InRange → (act u).state.InRange)
    (hacted : ∀ u, Acted p k u (act u).state) :
    (s.requestArrives p k f fun t => t.acceptDone p k f act).InRange :=
  h.requestArrives fun u hu hpasses => (hact u hu).acceptDone (hacted u) hpasses

/-- An administrative request whose action keeps the ranges. -/
theorem State.InRange.administrating {s : State} (h : s.InRange) {p : Port} {k : RequestKind}
    {f : RequestFrame} {act : State → Answer} (hact : ∀ u, u.InRange → (act u).state.InRange)
    (hacted : ∀ u, Acted p k u (act u).state) :
    (s.requestArrives p k f fun t => t.acceptDone p k f fun u => u.administrative p act).InRange := by
  refine h.acting (fun u hu => ?_) fun u => administrative_acted (hacted u)
  unfold State.administrative
  split
  · exact hact u hu
  · exact hu

theorem State.InRange.acceptBarrier {s : State} (h : s.InRange) {p : Port} {k : RequestKind}
    {f : RequestFrame}
    (hroom : ((s.port p).requests.queue (frameClass f)).length < windowOf (frameClass f)) :
    (s.acceptBarrier p k f).InRange := by
  unfold State.acceptBarrier
  simp only
  split
  · exact h.enqueue hroom fun t ht => absurd ht (by simp [State.newEntry])
  · exact h.enqueue hroom fun t ht => absurd ht (by simp [State.newEntry])

/-- A translation lies within a block, which has 8 lines (R47). -/
theorem lineCount_translate {s : State} {p : Port} {isWrite : Bool} {address length : Nat}
    {t : Translation} (h : s.translate p isWrite address length = .ok t) :
    1 ≤ t.lineCount ∧ t.lineCount ≤ 8 := by
  unfold State.translate at h
  split at h
  · simp at h
  · split at h
    · simp at h
    · split at h
      · rename_i hblock
        cases h
        simp only [withinBlock, Config.blockBytes, beq_iff_eq] at hblock
        simp only [lineCountOf, Config.lineBytes]
        omega
      · simp at h

theorem State.InRange.acceptRead {s : State} (h : s.InRange) {p : Port} {f : RequestFrame}
    (hroom : ((s.port p).requests.queue (frameClass f)).length < windowOf (frameClass f)) :
    (s.acceptRead p f).InRange := by
  unfold State.acceptRead
  simp only
  split
  · exact h.enqueue hroom fun t ht => absurd ht (by simp [State.newEntry])
  · rename_i t htranslate
    refine (h.pin t.frame).enqueue hroom fun t' ht' => ?_
    cases ht'
    exact lineCount_translate htranslate

theorem State.InRange.acceptWrite {s : State} (h : s.InRange) {p : Port} {f : RequestFrame}
    (hpasses : s.refusalOf p .write f = none) : (s.acceptWrite p f).InRange := by
  obtain ⟨hroom, hdata⟩ := room_of_refusalOf_none hpasses
  unfold State.acceptWrite
  simp only
  split
  · exact h.enqueue hroom fun t ht => absurd ht (by simp [State.newEntry])
  · rename_i t htranslate
    have hrequests := (h.ports p).requests
    have hreserved : (s.port p).requests.reservedLines + t.lineCount ≤ 64 := by
      have hfree : ¬(s.port p).requests.freeLines < t.lineCount := by
        simpa [State.dataFull, htranslate] using hdata
      have hlines := hrequests.reservedLines
      simp only [RequestUnit.freeLines, Config.writeLines] at hfree
      omega
    refine ((h.pin t.frame).modRequests (hrequests.of_claims (.of_sublist (.refl _)) hreserved
      hrequests.burstLimit)).enqueue ?_ fun t' ht' => ?_
    · rw [requests_modRequests_same]
      exact hroom
    · cases ht'
      exact lineCount_translate htranslate

/-! ### What the requests do -/

section
variable {s : State} (h : s.InRange)
include h

theorem State.InRange.alloc (p : Port) (x : List Byte) : (s.alloc p x).state.InRange := by
  unfold State.alloc
  simp only
  split
  · exact h
  · rename_i hpages
    split
    · exact h
    · split
      · exact h
      · rename_i hquota
        split
        · exact h
        · have hcount : (s.pool.freeList.take (pageTotal x)).length ≤ pageTotal x := List.length_take_le _ _
          have haperture := (take_quiet s p (pageTotal x)).aperture p
          refine (h.take p _).mapFrames ?_ ?_
          · simp only [Config.pageCount] at hpages
            omega
          · rw [State.mappedCount] at hquota
            rw [State.mappedCount, haperture]
            omega

theorem State.InRange.release (p : Port) (x : List Byte) : (s.release p x).state.InRange := by
  unfold State.release
  simp only
  split
  · exact h
  · split
    · exact h
    · exact h.releasePages p _

theorem State.InRange.offer (p : Port) (x : List Byte) : (s.offer p x).state.InRange := by
  have hmapping : ∀ target page rights m, (s.offerMapping p target page rights m).state.InRange := by
    intro target page rights m
    unfold State.offerMapping
    split
    · exact h
    · split
      · exact h
      · split
        · exact h
        · split
          · exact h
          · split
            · exact h
            · rename_i hfull
              exact h.createOffer (Nat.not_le.1 hfull) _
  unfold State.offer
  simp only
  split
  · exact h
  · split
    · split
      · exact h
      · split
        · exact hmapping _ _ _ _
        · exact h
    · exact h
    · exact h

theorem State.InRange.acceptOffer (p : Port) (x : List Byte) : (s.acceptOffer p x).state.InRange := by
  unfold State.acceptOffer
  simp only
  split
  · exact h
  · split
    · exact h
    · rename_i hpage
      split
      · exact h
      · split
        · exact h
        · rename_i hquota
          exact (((h.removeOffer _).fillSlot (Nat.not_le.1 hpage) (Nat.not_lt.1 hquota) _).hold
            _).raiseNotice _ _

theorem State.InRange.declineOffer (p : Port) (x : List Byte) : (s.declineOffer p x).state.InRange := by
  unfold State.declineOffer
  simp only
  split
  · exact h
  · exact (h.removeOffer _).raiseNotice _ _

theorem State.InRange.withdrawOffer (p : Port) (x : List Byte) :
    (s.withdrawOffer p x).state.InRange := by
  unfold State.withdrawOffer
  simp only
  split
  · exact h
  · exact (h.removeOffer _).raiseNotice _ _

theorem State.InRange.setOrder (p : Port) (x : List Byte) : (s.setOrder p x).state.InRange := by
  unfold State.setOrder
  simp only
  split
  · split
    · rename_i hlimit
      simp only [Answer.ok]
      refine h.modRequests ?_
      exact (h.ports p).requests.of_claims (.of_sublist (.refl _)) (h.ports p).requests.reservedLines hlimit
    · exact h
  · exact h

theorem State.InRange.openSession (p : Port) : (s.openSession p).state.InRange := by
  have hopened : ((s.modSession p fun c => { c with state := .opened }).modRequests p fun r =>
      { r with nextExpedited := 0, nextOrdinary := 0 }).InRange := by
    have hsession := h.modSession p fun c => { c with state := .opened }
    have hrequests := (hsession.ports p).requests
    exact hsession.modRequests (hrequests.of_claims (.of_sublist (.refl _)) hrequests.reservedLines
      hrequests.burstLimit)
  unfold State.openSession
  simp only [Answer.ok]
  split
  · exact ((hopened.withRole _).raiseAdminChanged _).raisePortState p _ _
  · exact hopened.raisePortState p _ _

theorem State.InRange.claimAdmin (p : Port) : (s.claimAdmin p).state.InRange := by
  unfold State.claimAdmin
  split
  · exact h.giveRole p
  · split <;> exact h
  · exact h

theorem State.InRange.handAdmin (p : Port) (x : List Byte) : (s.handAdmin p x).state.InRange := by
  unfold State.handAdmin
  split
  · exact h
  · split
    · exact h
    · split
      · exact h.giveRole _
      · exact h

theorem State.InRange.defineRegion (x : List Byte) : (s.defineRegion x).state.InRange := by
  unfold State.defineRegion
  simp only
  split
  · exact h
  · split
    · exact h
    · split
      · exact h
      · simp only [Answer.ok]
        refine h.modRegion ?_
        exact ⟨Nat.zero_le _, Nat.zero_le _⟩

theorem State.InRange.undefineRegion (x : List Byte) : (s.undefineRegion x).state.InRange := by
  unfold State.undefineRegion
  split
  · exact h
  · split
    · simp only [Answer.ok]
      refine h.modRegion ?_
      exact ⟨Nat.zero_le _, Nat.zero_le _⟩
    · exact h

theorem State.InRange.onlineRegion (x : List Byte) : (s.onlineRegion x).state.InRange := by
  unfold State.onlineRegion
  split
  · exact h
  · split
    · exact h.bringOnline _
    · exact h

theorem State.InRange.retireRequest (x : List Byte) : (s.retireRequest x).state.InRange := by
  unfold State.retireRequest
  split
  · exact h
  · split
    · exact h.startDrain _ _
    · exact h

theorem State.InRange.setQuota (x : List Byte) : (s.setQuota x).state.InRange := by
  unfold State.setQuota
  simp only
  split
  · exact h
  · split
    · exact h
    · rename_i hquota
      split
      · exact h
      · rename_i hmapped
        simp only [Answer.ok]
        refine h.modAperture ?_
        exact ⟨Nat.not_lt.1 hmapped, Nat.not_lt.1 hquota, (h.ports _).aperture.pages⟩

theorem State.InRange.setWeight (x : List Byte) : (s.setWeight x).state.InRange := by
  unfold State.setWeight
  simp only
  split
  · rename_i hweight
    refine ⟨h.ports, h.pool, h.share, ⟨fun y => ?_, h.scheduler.turnLines⟩, h.holdLimit, h.replayTimeout⟩
    simp only [Answer.ok, Scheduler.weight, Fin.getElem_fin, Vector.getElem_set]
    split
    · exact hweight.2
    · exact h.scheduler.weights y
  · exact h

theorem State.InRange.setOfferLife (v : Nat) : (s.setOfferLife v).state.InRange := by
  unfold State.setOfferLife
  split
  · rename_i hv
    simp only [Answer.ok]
    refine h.modShare ?_
    exact ⟨hv, h.share.offers⟩
  · exact h

theorem State.InRange.setHoldLimit (v : Nat) : (s.setHoldLimit v).state.InRange := by
  unfold State.setHoldLimit
  split
  · rename_i hv
    exact ⟨h.ports, h.pool, h.share, h.scheduler, hv, h.replayTimeout⟩
  · exact h

theorem State.InRange.setErrorLimit (v : Nat) : (s.setErrorLimit v).state.InRange := by
  unfold State.setErrorLimit
  split
  · rename_i hv
    simp only [Answer.ok]
    refine h.modPool ?_
    exact ⟨hv, h.pool.scrubDone, h.pool.regions⟩
  · exact h

theorem State.InRange.setReplayTimeout (v : Nat) : (s.setReplayTimeout v).state.InRange := by
  unfold State.setReplayTimeout
  split
  · rename_i hv
    exact ⟨h.ports, h.pool, h.share, h.scheduler, h.holdLimit, hv⟩
  · exact h

theorem State.InRange.disablePort (p : Port) (x : List Byte) : (s.disablePort p x).state.InRange := by
  unfold State.disablePort
  split
  · exact h
  · split
    · exact h
    · exact h.disable _

theorem State.InRange.enablePort (x : List Byte) : (s.enablePort x).state.InRange := by
  unfold State.enablePort
  split
  · exact h
  · split
    · exact (h.modSession _ _).raisePortState _ _ _
    · exact h

theorem State.InRange.evictPort (p : Port) (x : List Byte) : (s.evictPort p x).state.InRange := by
  unfold State.evictPort
  split
  · exact h
  · split
    · exact h
    · split
      · simp only [State.portAnswer, Answer.ok]
        exact h.startTeardown _ _
      · exact h

end

/-! ### The memory channel (Chapter 6) -/

/-- An operation has 8 lines at most (R118). -/
theorem lineCount_presentedOp {s : State} (h : s.InRange) {x : Participant} {o : Operation}
    (ho : s.presentedOp x = some o) : o.lineCount ≤ 8 := by
  unfold State.presentedOp at ho
  split at ho
  · split at ho
    · rename_i p _ e he
      unfold Entry.operation at ho
      split at ho
      · rename_i t ht
        cases ho
        exact ((h.ports p).requests.lines e (List.mem_of_find?_eq_some he) t ht).2
      · simp at ho
    · simp at ho
  · split at ho
    · cases ho; exact le_rfl
    · simp at ho
    · simp at ho

section
variable {s : State} (h : s.InRange)
include h

theorem State.InRange.tellGranted (x : Participant) : (s.tellGranted x).InRange := by
  unfold State.tellGranted
  split
  · refine State.InRange.present (h.modRequests ?_) _
    refine (h.ports _).requests.entries (.of_eq (map_claim_changeFirst _ ?_ _))
    exact fun _ => rfl
  · refine h.modPool ?_
    split
    · exact ⟨h.pool.threshold, h.pool.scrubDone, h.pool.regions⟩
    · exact h.pool
    · exact h.pool

/-- A turn goes on below the weight only, so that its count comes to 63 and the lines of one operation (R123). -/
theorem State.InRange.grantTo {x : Participant} {o : Operation} (ho : s.presentedOp x = some o) :
    (s.grantTo x o).InRange := by
  have hlines := lineCount_presentedOp h ho
  have hturn : (if s.turnContinues then s.scheduler.turnLines else 0) + o.lineCount ≤ 71 := by
    split
    · rename_i hcontinues
      have hbelow := ((turnContinues_iff s).1 hcontinues).2
      have hweight := (h.scheduler.weights s.scheduler.holder).2
      omega
    · omega
  have hgranting : (s.granting x o
      ((if s.turnContinues then s.scheduler.turnLines else 0) + o.lineCount)).InRange :=
    ⟨h.ports, h.pool, h.share, ⟨h.scheduler.weights, hturn⟩, h.holdLimit, h.replayTimeout⟩
  exact hgranting.tellGranted x

theorem State.InRange.takeGrant : s.takeGrant.InRange := by
  unfold State.takeGrant
  split
  · split
    · rename_i ho
      exact h.grantTo ho
    · exact h
  · exact h
  · exact h

theorem State.InRange.requestCompleted (p : Port) {g : Entry → Entry}
    (hg : ∀ e, (g e).claim = e.claim) : (s.requestCompleted p g).InRange := by
  unfold State.requestCompleted
  split
  · refine State.InRange.endTeardownIfEmpty (h.modRequests ?_) p
    exact (h.ports p).requests.entries (.of_sublist (removeFirst_sublist _ _))
  · exact State.InRange.present (h.modRequests ((h.ports p).requests.complete hg)) p

theorem State.InRange.readCompleted (p : Port) (o : Operation) (reports : List LineReport) :
    (s.readCompleted p o reports).InRange := by
  rw [readCompleted_eq, State.readAccounted]
  refine State.InRange.requestCompleted (State.InRange.unpin (State.InRange.accountRead ?_ _ _) _) p ?_
  · exact ⟨h.ports, h.pool, h.share, h.scheduler, h.holdLimit, h.replayTimeout⟩
  · intro e
    rw [readDone_eq]
    split <;> rfl

theorem State.InRange.writeCompleted (p : Port) (o : Operation) (reports : List LineReport) :
    (s.writeCompleted p o reports).InRange := by
  have hwritten : ({ s with inFlight := none, dram := s.dramWritten p o reports } : State).InRange :=
    ⟨h.ports, h.pool, h.share, h.scheduler, h.holdLimit, h.replayTimeout⟩
  have hunpinned := hwritten.unpin o.frame
  exact (hunpinned.modRequests ((hunpinned.ports p).requests.freeWriteLines _)).requestCompleted p
    fun _ => rfl

theorem State.InRange.zeroCompleted (o : Operation) : (s.zeroCompleted o).InRange :=
  ⟨h.ports, h.pool.scrubCompleted o.frame, h.share, h.scheduler, h.holdLimit, h.replayTimeout⟩

theorem State.InRange.holdExpired (p : Port) : (s.holdExpired p).InRange := by
  have htransmit := (h.ports p).transmit
  have hstopped : (s.modTransmit p fun t => { t with holdTimer := none }).InRange :=
    h.modTransmit ⟨htransmit.refusals, htransmit.notices, htransmit.lost, htransmit.burst⟩
  have htransmit' := (hstopped.ports p).transmit
  unfold State.holdExpired
  simp only
  split
  · exact State.InRange.raiseNotice (hstopped.modTransmit
      ⟨htransmit'.refusals, htransmit'.notices, htransmit'.lost, htransmit'.burst⟩) p _
  · exact hstopped

theorem State.InRange.replayExpired (p : Port) : (s.replayExpired p).InRange := by
  unfold State.replayExpired
  split
  · rename_i hfew
    exact h.modLink ⟨(h.ports p).link.replay, hfew, (h.ports p).link.checkErrors⟩
  · exact h.loseLink p _

end

/-! ### One step -/

theorem inRange_reset : State.reset.InRange :=
  (inRange_iff _).2 ⟨reset_bounds, reset_limits, reset_quotas, reset_scheduler, reset_pages⟩

theorem inRange_deviceReset (s : State) : s.deviceReset.InRange :=
  ⟨inRange_reset.ports, inRange_reset.pool, inRange_reset.share, inRange_reset.scheduler,
    inRange_reset.holdLimit, inRange_reset.replayTimeout⟩

/-- A command that acts while RESET# is high. -/
theorem State.InRange.whenRunning {s next t : State} (h : s.InRange) (hnext : next.InRange)
    (ht : Machine.whenRunning s next = .next t) : t.InRange := by
  rw [whenRunning_eq_next] at ht
  rw [ht]
  split
  · exact h
  · exact hnext

/-- What every command leaves in range. -/
def KeepsRange (i : Instr) : Prop := ∀ s t : State, s.InRange → exec i s = .next t → t.InRange

/-- A command that acts while RESET# is high, by what it does. -/
theorem KeepsRange.of_running {i : Instr} {next : State → State}
    (hexec : ∀ s, exec i s = Machine.whenRunning s (next s)) (hnext : ∀ s, s.InRange → (next s).InRange) :
    KeepsRange i := by
  intro s t h ht
  rw [hexec] at ht
  exact h.whenRunning (hnext s h) ht

/-- A request that acts at acceptance. -/
theorem KeepsRange.acting {i : Instr} {p : Port} {k : RequestKind} {f : RequestFrame} {act : State → Answer}
    (hexec : ∀ s, exec i s =
      Machine.whenRunning s (s.requestArrives p k f fun t => t.acceptDone p k f act))
    (hact : ∀ s, s.InRange → (act s).state.InRange) (hacted : ∀ s, Acted p k s (act s).state) :
    KeepsRange i :=
  .of_running hexec fun _ h => h.acting hact hacted

/-- An administrative request. -/
theorem KeepsRange.administrative {i : Instr} {p : Port} {k : RequestKind} {f : RequestFrame}
    {act : State → Answer}
    (hexec : ∀ s, exec i s = Machine.whenRunning s (s.requestArrives p k f fun t =>
      t.acceptDone p k f fun u => u.administrative p act))
    (hact : ∀ s, s.InRange → (act s).state.InRange) (hacted : ∀ s, Acted p k s (act s).state) :
    KeepsRange i :=
  .of_running hexec fun _ h => h.administrating hact hacted

theorem state_queryPort (s : State) (p : Port) (x : List Byte) : (s.queryPort p x).state = s := by
  unfold State.queryPort
  split
  · rfl
  · split <;> rfl

theorem state_queryPage (s : State) (p : Port) (x : List Byte) : (s.queryPage p x).state = s := by
  unfold State.queryPage
  split
  · rfl
  · split <;> rfl

theorem state_queryFrame (s : State) (p : Port) (x : List Byte) : (s.queryFrame p x).state = s := by
  unfold State.queryFrame State.administrative
  split
  · simp only
    split <;> rfl
  · rfl

/-- A frame of unknown kind is a request of any kind that is refused: nothing but the refusal queue and the link
change. -/
theorem State.InRange.unknownArrives {s : State} (h : s.InRange) (p : Port) (f : RequestFrame) :
    (s.receiveSequenced p f.seq fun t => t.refuse p f .malformed).InRange := by
  have hoffered : ∀ u : State, u.InRange →
      (u.offerInSequence p f.seq fun t => t.refuse p f .malformed).InRange := by
    intro u hu
    by_cases hroom : (u.port p).transmit.refusals.length < 8
    · simp only [State.offerInSequence, State.refuse, Config.refusalPlaces, hroom, if_true]
      exact State.InRange.modLink_counts (hu.refused hroom _) rfl rfl rfl
    · simp only [State.offerInSequence, State.refuse, Config.refusalPlaces, hroom, if_false]
      exact hu.outOfSequence p
  unfold State.receiveSequenced
  split
  · exact h
  · exact h
  · unfold State.sequencedIntoUp
    split
    · exact hoffered _ (h.enterUp p)
    · exact State.InRange.outOfSequence (h.enterUp p) p
  · unfold State.sequencedInUp
    split
    · exact hoffered s h
    · exact h.modLink_counts rfl rfl rfl
    · exact h.outOfSequence p

/-- The commands of the link, of the timers, of the memory channel and of the transmitter, and the requests. -/
theorem keepsRange (i : Instr) : KeepsRange i := by
  cases i with
  | deviceReset =>
    intro s t _ ht
    cases ht
    exact inRange_deviceReset s
  | resetRelease a =>
    intro s t h ht
    cases ht
    split
    · exact ⟨h.ports, h.pool, h.share, h.scheduler, h.holdLimit, h.replayTimeout⟩
    · exact h
  | receiverLockGained p =>
    refine .of_running (fun _ => rfl) fun s h => ?_
    split
    · exact h.startHello p _ _
    all_goals exact h
  | receiverLockLost p =>
    refine .of_running (fun _ => rfl) fun s h => ?_
    split
    · exact h.loseLink p _
    · exact h.startHello p _ _
    · exact h.startHello p _ _
    · exact h
  | damagedFrame p bytes =>
    refine .of_running (fun _ => rfl) fun s h => ?_
    have hcounted : (s.modLink p LinkUnit.countDamaged).InRange :=
      h.modLink ⟨(h.ports p).link.replay, (h.ports p).link.timeouts, Nat.min_le_left _ _⟩
    split
    · exact h
    · split
      · exact h
      all_goals exact hcounted
  | linkHello p seen =>
    refine .of_running (fun _ => rfl) fun s h => ?_
    split
    · exact h
    · exact h.startHello p _ _
    · split
      · exact h.enterUp p
      · exact h
    · split
      · exact h.modLink_counts rfl rfl rfl
      · exact h.loseLink p _
  | linkAck p value hold =>
    refine .of_running (fun _ => rfl) fun s h => ?_
    split
    · exact h
    · exact h
    · exact State.InRange.ackInUp (h.enterUp p) p _ _
    · exact h.ackInUp p _ _
  | linkNak p value =>
    refine .of_running (fun _ => rfl) fun s h => ?_
    split
    · exact h
    · exact h
    · exact State.InRange.nakInUp (h.enterUp p) p _
    · exact h.nakInUp p _
  | unknownRequestKind p k f => exact .of_running (fun _ => rfl) fun s h => h.unknownArrives p f
  | openSession p f => exact .acting (fun _ => rfl) (fun s h => h.openSession p) fun s => openSession_acted s p
  | closeSession p f =>
    refine .of_running (fun _ => rfl) fun s h => h.requestArrives fun u hu hpasses => ?_
    refine State.InRange.acceptBarrier (hu.modSession p _) ?_
    rw [requests_modSession]
    exact (room_of_refusalOf_none hpasses).1
  | setOrder p f => exact .acting (fun _ => rfl) (fun s h => h.setOrder p _) fun s => setOrder_acted s p _
  | read p f =>
    exact .of_running (fun _ => rfl) fun s h => h.requestArrives fun u hu hpasses =>
      hu.acceptRead (room_of_refusalOf_none hpasses).1
  | write p f =>
    exact .of_running (fun _ => rfl) fun s h => h.requestArrives fun u hu hpasses => hu.acceptWrite hpasses
  | fence p f =>
    exact .of_running (fun _ => rfl) fun s h => h.requestArrives fun u hu hpasses =>
      hu.acceptBarrier (room_of_refusalOf_none hpasses).1
  | alloc p f => exact .acting (fun _ => rfl) (fun s h => h.alloc p _) fun s => alloc_acted s p _
  | release p f => exact .acting (fun _ => rfl) (fun s h => h.release p _) fun s => release_acted s p _
  | offer p f => exact .acting (fun _ => rfl) (fun s h => h.offer p _) fun s => offer_acted s p _
  | accept p f =>
    exact .acting (fun _ => rfl) (fun s h => h.acceptOffer p _) fun s => acceptOffer_acted s p _
  | decline p f =>
    exact .acting (fun _ => rfl) (fun s h => h.declineOffer p _) fun s => declineOffer_acted s p _
  | withdraw p f =>
    exact .acting (fun _ => rfl) (fun s h => h.withdrawOffer p _) fun s => withdrawOffer_acted s p _
  | queryPort p f =>
    exact .acting (fun _ => rfl) (fun s h => (state_queryPort s p _).symm ▸ h) fun s => queryPort_acted s p _
  | queryPage p f =>
    exact .acting (fun _ => rfl) (fun s h => (state_queryPage s p _).symm ▸ h) fun s => queryPage_acted s p _
  | queryPool p f => exact .acting (fun _ => rfl) (fun _ h => h) fun s => .refl p _ s
  | queryFrame p f =>
    exact .acting (fun _ => rfl) (fun s h => (state_queryFrame s p _).symm ▸ h) fun s =>
      queryFrame_acted s p _
  | claimAdmin p f => exact .acting (fun _ => rfl) (fun s h => h.claimAdmin p) fun s => claimAdmin_acted s p
  | handAdmin p f =>
    exact .administrative (fun _ => rfl) (fun s h => h.handAdmin p _) fun s => handAdmin_acted s p _
  | defineRegion p f =>
    exact .administrative (fun _ => rfl) (fun s h => h.defineRegion _) fun s => defineRegion_acted s p _
  | undefineRegion p f =>
    exact .administrative (fun _ => rfl) (fun s h => h.undefineRegion _) fun s => undefineRegion_acted s p _
  | onlineRegion p f =>
    exact .administrative (fun _ => rfl) (fun s h => h.onlineRegion _) fun s => onlineRegion_acted s p _
  | retireRegion p f =>
    exact .administrative (fun _ => rfl) (fun s h => h.retireRequest _) fun s => retireRequest_acted s p _
  | setQuota p f =>
    exact .administrative (fun _ => rfl) (fun s h => h.setQuota _) fun s => setQuota_acted s p _
  | setWeight p f =>
    exact .administrative (fun _ => rfl) (fun s h => h.setWeight _) fun s => setWeight_acted s p _
  | setLimitOfferLife p f =>
    exact .administrative (fun _ => rfl) (fun s h => h.setOfferLife _) fun s => setOfferLife_acted s p _
  | setLimitHoldLimit p f =>
    exact .administrative (fun _ => rfl) (fun s h => h.setHoldLimit _) fun s => setHoldLimit_acted s p _
  | setLimitErrorLimit p f =>
    exact .administrative (fun _ => rfl) (fun s h => h.setErrorLimit _) fun s => setErrorLimit_acted s p _
  | setLimitReplayTimeout p f =>
    exact .administrative (fun _ => rfl) (fun s h => h.setReplayTimeout _) fun s =>
      setReplayTimeout_acted s p _
  | disablePort p f =>
    exact .administrative (fun _ => rfl) (fun s h => h.disablePort p _) fun s => disablePort_acted s p _
  | enablePort p f =>
    exact .administrative (fun _ => rfl) (fun s h => h.enablePort _) fun s => enablePort_acted s p _
  | evictPort p f =>
    exact .administrative (fun _ => rfl) (fun s h => h.evictPort p _) fun s => evictPort_acted s p _
  | grant => exact .of_running (fun _ => rfl) fun _ h => h.takeGrant
  | readLinesCompletion reports =>
    refine .of_running (fun _ => rfl) fun s h => ?_
    split
    · split
      · exact h.readCompleted _ _ _
      all_goals exact h
    · exact h
  | writeLinesCompletion reports =>
    refine .of_running (fun _ => rfl) fun s h => ?_
    split
    · split
      · exact h.writeCompleted _ _ _
      all_goals exact h
    · exact h
  | zeroLinesCompletion =>
    refine .of_running (fun _ => rfl) fun s h => ?_
    split
    · split
      · exact h.zeroCompleted _
      all_goals exact h
    · exact h
  | transmitChoice p => exact .of_running (fun _ => rfl) fun _ h => h.transmitNew p
  | retransmit p =>
    refine .of_running (fun _ => rfl) fun s h => ?_
    split
    · split
      · exact State.InRange.send (h.modLink (h.ports p).link.moveOn) p _
      · exact h
    · exact h
  | sendLinkHello p =>
    refine .of_running (fun _ => rfl) fun s h => ?_
    simp only
    split
    · exact State.InRange.send (h.modLink_counts rfl rfl rfl) p _
    · exact h
  | sendLinkNak p =>
    refine .of_running (fun _ => rfl) fun s h => ?_
    split
    · exact State.InRange.send (h.modLink_counts rfl rfl rfl) p _
    all_goals exact h
  | sendLinkAck p =>
    refine .of_running (fun _ => rfl) fun s h => ?_
    split
    · exact State.InRange.send (h.modLink_counts rfl rfl rfl) p _
    all_goals exact h
  | helloTimerExpiry p =>
    refine .of_running (fun _ => rfl) fun s h => ?_
    split
    · exact State.InRange.modLink_counts (h.reachTime _) rfl rfl rfl
    · exact h
  | replayTimerExpiry p =>
    refine .of_running (fun _ => rfl) fun s h => ?_
    split
    · exact State.InRange.replayExpired (h.reachTime _) p
    · exact h
  | holdTimerExpiry p =>
    refine .of_running (fun _ => rfl) fun s h => ?_
    split
    · exact State.InRange.holdExpired (h.reachTime _) p
    · exact h
  | offerExpiry n =>
    refine .of_running (fun _ => rfl) fun s h => ?_
    split
    · exact State.InRange.raiseNotice (State.InRange.raiseNotice
        (State.InRange.removeOffer (h.reachTime _) _) _ _) _ _
    · exact h

theorem step_inRange {s t : State} (h : s.InRange) (hstep : step s = .next t) : t.InRange := by
  unfold step at hstep
  split at hstep
  · refine keepsRange _ _ t ?_ hstep
    exact ⟨h.ports, h.pool, h.share, h.scheduler, h.holdLimit, h.replayTimeout⟩
  · cases hstep
    exact ⟨h.ports, h.pool, h.share, h.scheduler, h.holdLimit, h.replayTimeout⟩

end Sys2Proof.Machine
end

section
/-! SUPPORT. The ranges of the frame and region counts, from the accounting of the pool. -/

namespace Sys2Proof.Machine

/-! ### Counting -/

/-- Both class queues are all entries. -/
theorem length_entries_eq (r : RequestUnit) :
    r.entries.length = (r.queue .expedited).length + (r.queue .ordinary).length := by
  rw [List.length_eq_countP_add_countP (fun e : Entry => e.cls == .expedited), RequestUnit.queue,
    RequestUnit.queue, ← List.countP_eq_length_filter, ← List.countP_eq_length_filter]
  congr 1
  refine List.countP_congr fun e _ => ?_
  cases e.cls <;> simp

theorem length_entries_le {r : RequestUnit} (h : r.InRange) : r.entries.length ≤ 20 := by
  have hexpedited : _ ≤ 4 := h.windows .expedited
  have hordinary : _ ≤ 16 := h.windows .ordinary
  rw [length_entries_eq]
  omega

/-- What each port has `n` of at most, all ports have `4 * n` of. -/
theorem sum_allPorts_le {count : Port → Nat} {n : Nat} (h : ∀ p, count p ≤ n) :
    (allPorts.map count).sum ≤ 4 * n := by
  have h0 := h 0
  have h1 := h 1
  have h2 := h 2
  have h3 := h 3
  simp only [allPorts, List.map_cons, List.map_nil, List.sum_cons, List.sum_nil]
  omega

/-- Of elements with distinct values at most one has a given value. -/
theorem length_filter_le_one {α : Type} {value : α → Nat} {l : List α}
    (h : l.Pairwise fun a b => value a ≠ value b) (f : Nat) :
    (l.filter fun a => value a == f).length ≤ 1 := by
  have hdistinct := h.filter fun a => value a == f
  match hl : l.filter (fun a => value a == f) with
  | [] => exact Nat.zero_le _
  | [_] => exact le_rfl
  | a :: b :: rest =>
    have hmem : ∀ x ∈ l.filter (fun a => value a == f), value x = f := fun x hx => by
      simpa using (List.mem_filter.1 hx).2
    rw [hl] at hdistinct hmem
    exact absurd ((hmem a (by simp)).trans (hmem b (by simp)).symm)
      ((List.pairwise_cons.1 hdistinct).1 b (by simp))

/-- The numbers of a list in rising order are distinct. -/
theorem Sparse.nodup_keys {α : Type} {l : Sparse α} (h : Sparse.rising l = true) :
    (l.map Prod.fst).Nodup := by
  induction l with
  | nil => exact List.nodup_nil
  | cons e l ih =>
    obtain ⟨habove, hrising⟩ := Sparse.rising_cons.1 h
    refine List.nodup_cons.2 ⟨fun hmem => ?_, ih hrising⟩
    obtain ⟨d, hd, hsame⟩ := List.mem_map.1 hmem
    have := habove d hd
    omega

/-- Distinct numbers between two bounds are no more than the bounds leave room for. -/
theorem length_le_of_between {l : List Nat} (h : l.Nodup) {first stop : Nat}
    (hbetween : ∀ x ∈ l, first ≤ x ∧ x < stop) : l.length ≤ stop - first := by
  have hsubset : l ⊆ List.range' first (stop - first) := fun x hx => by
    have := hbetween x hx
    rw [List.mem_range'_1]
    omega
  simpa using (List.subperm_of_subset h hsubset).length_le

/-! ### The ranges -/

/-- A frame that a page maps is HELD. -/
theorem held_of_mapped {s : State} (h : s.FramesCounted) {p : Port} {e : Nat × Mapping}
    (he : e ∈ (s.port p).aperture.slots) : (s.frame e.2.frame).state = .held := by
  rw [h.held, h.holders]
  have hmem : e ∈ (s.port p).aperture.slots.filter fun d => d.2.frame == e.2.frame :=
    List.mem_filter.2 ⟨he, by simp⟩
  have hport : ∀ p : Port, p ∈ allPorts := by decide
  have hcounted := List.mem_map_of_mem (f := fun q =>
    ((s.port q).aperture.slots.filter fun d => d.2.frame == e.2.frame).length) (hport p)
  exact le_trans (List.length_pos_of_mem hmem) (List.single_le_sum (fun _ _ => Nat.zero_le _) _ hcounted)

/-- A frame in service is a frame of the part. -/
theorem lt_of_inService {s : State} (h : s.PoolInOrder) {f : Nat} (hf : (s.frame f).state ≠ .absent) :
    f < 262144 := by
  have hregion : ∀ x, x ≠ RegionState.empty → s.regionIs f x = true → f < 262144 := by
    intro x hx his
    obtain ⟨k, hslot, hstate⟩ := (regionIs_iff s f x).1 his
    have hspan := (inRegion_iff s k f).1 (inRegion_of_regionSlot hslot)
    exact lt_of_lt_of_le hspan.2 (h.regions.sizes k (by rwa [hstate])).2.2
  rcases (h.inService f).1 hf with his | his | his
  · exact hregion _ (by decide) his
  · exact hregion _ (by decide) his
  · exact hregion _ (by decide) his

theorem framesInRange_of_accounted {s : State} (hrange : s.InRange) (h : s.PoolAccounted) :
    s.FramesInRange := by
  refine ⟨fun f => ?_, fun f => ?_, fun k => ?_, fun p e he => ?_⟩
  · rw [h.counts.holders]
    exact sum_allPorts_le fun p => length_filter_le_one (value := fun e : Nat × Mapping => e.2.frame) (h.counts.once p) f
  · rw [h.counts.pins]
    exact sum_allPorts_le fun p =>
      le_trans (List.length_filter_le _ _) (length_entries_le (hrange.ports p).requests)
  · rw [h.pool.retiredCounts, ← List.length_map (f := Prod.fst)]
    refine length_le_of_between ((Sparse.nodup_keys h.pool.canonical).sublist
      (List.filter_sublist.map _)) fun x hx => ?_
    obtain ⟨e, he, rfl⟩ := List.mem_map.1 hx
    have hin := (List.mem_filter.1 he).2
    rw [Bool.and_eq_true] at hin
    exact (inRegion_iff s k e.1).1 hin.1
  · exact lt_of_inService h.pool (by simp [held_of_mapped h.counts he])

/-- Settles O53: every operation keeps the ranges of each unit, and the accounting bounds what is counted. -/
theorem stepKeepsValuesInRange : Obligations.StepKeepsValuesInRange := by
  refine ⟨fun s t hstep hs => ?_, fun s hs hpool => ?_⟩
  · exact (inRange_iff t).1 (step_inRange ((inRange_iff s).2 hs) hstep)
  · exact framesInRange_of_accounted ((inRange_iff s).2 hs) hpool

end Sys2Proof.Machine
end

section
/-! SUPPORT. The frame records in canonical form through every operation of the Pool Manager, and the aperture tables
through the release of pages and a teardown. -/

namespace Sys2Proof.Machine

/-! ### Frame records (R5) -/

/-- The frame records stand in rising order, and no ABSENT record is listed. -/
structure PoolManager.Canonical (q : PoolManager) : Prop where
  rising : Sparse.rising q.frames = true
  listed : ∀ e ∈ q.frames, e.2 ≠ .absentRecord

theorem PoolManager.Canonical.of_frames {q q' : PoolManager} (h : q.Canonical) (hframes : q'.frames = q.frames) :
    q'.Canonical :=
  ⟨hframes ▸ h.rising, hframes ▸ h.listed⟩

theorem PoolManager.Canonical.setFrame {q : PoolManager} (h : q.Canonical) (f : Nat) (r : FrameRecord) :
    (q.setFrame f r).Canonical := by
  refine ⟨PoolManager.rising_setFrame h.rising f r, fun e he => ?_⟩
  rcases Sparse.mem_set he with hold | ⟨-, hnew⟩
  · exact h.listed e hold
  · split at hnew
    · cases hnew
    · rename_i hr
      cases hnew
      exact hr

theorem PoolManager.Canonical.putStates {q : PoolManager} (h : q.Canonical) (state : FrameState) (l : List Nat) :
    (l.foldl (PoolManager.putState state) q).Canonical := by
  induction l generalizing q with
  | nil => exact h
  | cons f l ih => exact ih (h.setFrame f _)

theorem PoolManager.Canonical.settleScrub {q : PoolManager} (h : q.Canonical) : q.settleScrub.Canonical :=
  h.of_frames (by rw [PoolManager.settleScrub_eq])

/-- A settled Scrubber, of a pool whose records are canonical. -/
theorem PoolManager.Canonical.settled {q q' : PoolManager} (h : q.Canonical) (hframes : q'.frames = q.frames) :
    q'.settleScrub.Canonical :=
  (h.of_frames hframes).settleScrub

theorem PoolManager.Canonical.scrubCompleted {q : PoolManager} (h : q.Canonical) (f : Nat) :
    (q.scrubCompleted f).Canonical := by
  have hidle : ∀ done, (q.scrubIdle done).Canonical := fun _ => h.of_frames rfl
  by_cases hhead : q.scrub.head = some f
  · by_cases hdone : q.scrub.done + 1 = 256
    · rw [scrubCompleted_finished hhead hdone]
      exact ((hidle _).setFrame f _).settled rfl
    · rw [scrubCompleted_counted hhead hdone]
      exact (hidle _).settleScrub
  · rw [scrubCompleted_discarded hhead]
    exact (hidle _).settleScrub

section
variable {s : State} (h : s.pool.Canonical)
include h

theorem canonical_setFrame (f : Nat) (r : FrameRecord) : (s.setFrame f r).pool.Canonical := h.setFrame f r

theorem canonical_afterRetired (k : Slot) : (s.afterRetired k).pool.Canonical :=
  h.of_frames (by rw [pool_afterRetired])

theorem canonical_retireFrame (f : Nat) : (s.retireFrame f).pool.Canonical := by
  unfold State.retireFrame
  simp only
  split
  · exact canonical_afterRetired (canonical_setFrame h f _) _
  · exact canonical_setFrame h f _

theorem canonical_queueScrub (f : Nat) : (s.queueScrub f).pool.Canonical :=
  (h.setFrame f _).settled rfl

theorem canonical_dispose (f : Nat) : (s.dispose f).pool.Canonical := by
  unfold State.dispose
  split
  · exact canonical_retireFrame h f
  · exact canonical_queueScrub h f

theorem canonical_settleFrame (f : Nat) : (s.settleFrame f).pool.Canonical := by
  unfold State.settleFrame
  simp only
  split
  · split
    · split
      · exact canonical_dispose h f
      · exact canonical_setFrame h f _
    · exact h
  · exact h

theorem canonical_hold (f : Nat) : (s.hold f).pool.Canonical := canonical_setFrame h f _

theorem canonical_pin (f : Nat) : (s.pin f).pool.Canonical := canonical_setFrame h f _

theorem canonical_unhold (f : Nat) : (s.unhold f).pool.Canonical :=
  canonical_settleFrame (canonical_setFrame h f _) f

theorem canonical_unpin (f : Nat) : (s.unpin f).pool.Canonical :=
  canonical_settleFrame (canonical_setFrame h f _) f

theorem canonical_startDrain (k : Slot) (cause : DrainCause) : (s.startDrain k cause).pool.Canonical := by
  have hmarked : (s.markDraining k cause).pool.Canonical := h.of_frames (by rw [pool_markDraining]; rfl)
  have hdrained : (s.drained k cause).pool.Canonical := by
    rw [State.drained, retireUnheldFrames_eq]
    exact (hmarked.putStates .retired ((s.markDraining k cause).unheldFrames k)).settled rfl
  exact hdrained.of_frames (startDrain_drains s k cause).frames

theorem canonical_bringOnline (k : Slot) : (s.bringOnline k).pool.Canonical := by
  have honline : (s.modRegion k fun r => { r with state := .online }).pool.Canonical := h.of_frames rfl
  exact (honline.putStates .scrubbing (s.regionFrames k)).settled rfl

theorem canonical_poison (f : Nat) : (s.poison f).pool.Canonical := by
  unfold State.poison
  split
  · exact h
  · exact (canonical_setFrame h f _).of_frames (by rw [pool_raiseForAdmin])

theorem canonical_countUncorrectable (k : Slot) : (s.countUncorrectable k).pool.Canonical := by
  have hcounted : (s.countedUncorrectable k).pool.Canonical := h.of_frames rfl
  by_cases hcount : (s.region k).uncorrectable < 255
  · by_cases hreach : s.reachesThreshold k
    · rw [countUncorrectable_drains hcount hreach]
      exact canonical_startDrain hcounted k _
    · rwa [countUncorrectable_counts hcount hreach]
  · rwa [countUncorrectable_saturated (Nat.not_lt.1 hcount)]

theorem canonical_accountRead (f : Nat) (c : ReadClass) : (s.accountRead f c).pool.Canonical := by
  cases c with
  | clean => exact h
  | corrected =>
    simp only [State.accountRead]
    split
    · exact h.of_frames rfl
    · exact h
  | uncorrectable =>
    simp only [State.accountRead]
    split
    · exact canonical_countUncorrectable (canonical_poison h f) _
    · exact canonical_poison h f

end

/-- A fold of operations that keep the records canonical keeps them so. -/
theorem canonical_foldl {β : Type} {f : State → β → State}
    (hf : ∀ s b, s.pool.Canonical → (f s b).pool.Canonical) (l : List β) {s : State}
    (h : s.pool.Canonical) : (l.foldl f s).pool.Canonical := by
  induction l generalizing s with
  | nil => exact h
  | cons b l ih => exact ih (hf s b h)

theorem canonical_take {s : State} (h : s.pool.Canonical) (p : Port) (count : Nat) :
    (s.take p count).pool.Canonical :=
  canonical_foldl (fun _ f ht => canonical_setFrame ht f _) _ (h.of_frames rfl)

theorem pool_withdrawForPage (s : State) (p : Port) (g : Nat) : (s.withdrawForPage p g).pool = s.pool := by
  rw [State.withdrawForPage, pool_raiseOfferNotices, pool_modShare]

theorem canonical_releasePage {s : State} (h : s.pool.Canonical) (p : Port) (g : Nat) :
    (s.releasePage p g).pool.Canonical := by
  unfold State.releasePage
  split
  · exact h
  · refine canonical_unhold ?_ _
    rwa [pool_setSlot, pool_withdrawForPage]

theorem canonical_releasePages {s : State} (h : s.pool.Canonical) (p : Port) (gs : List Nat) :
    (s.releasePages p gs).pool.Canonical :=
  canonical_foldl (fun _ g ht => canonical_releasePage ht p g) gs h

theorem canonical_tearQueues {s : State} (h : s.pool.Canonical) (p : Port) :
    (s.tearQueues p).pool.Canonical := by
  refine canonical_foldl (f := fun t e => t.discardEntry p e) (fun t e ht => ?_) _ h
  unfold State.discardEntry
  split
  · split
    · refine canonical_unpin ?_ _
      split <;> exact ht
    · exact ht
  · exact ht

/-! ### Aperture tables -/

/-- Taking out a number that is not listed changes nothing. -/
theorem Sparse.set_none_of_get {α : Type} {l : Sparse α} {k : Nat} (h : Sparse.get l k = none) :
    Sparse.set l k none = l := by
  induction l with
  | nil => rfl
  | cons e l ih =>
    obtain ⟨j, x⟩ := e
    rw [Sparse.get] at h
    split at h
    · cases h
    · rename_i hj
      rw [Sparse.set]
      split
      · rfl
      · rw [if_neg fun hk => hj hk.symm, ih h]

/-- Taking out every listed number leaves nothing. -/
theorem Sparse.foldl_set_none {α : Type} (l : Sparse α) :
    (l.map Prod.fst).foldl (fun t k => Sparse.set t k none) l = [] := by
  induction l with
  | nil => rfl
  | cons e l ih =>
    rw [List.map_cons, List.foldl_cons, Sparse.set, if_neg (lt_irrefl _), if_pos rfl]
    exact ih

@[simp] theorem aperture_setSlot_ne (s : State) {p q : Port} (h : q ≠ p) (g : Nat) (m : Option Mapping) :
    ((s.setSlot p g m).port q).aperture = (s.port q).aperture := by
  simp [State.setSlot, h]

@[simp] theorem aperture_setSlot_same (s : State) (p : Port) (g : Nat) (m : Option Mapping) :
    ((s.setSlot p g m).port p).aperture =
      { (s.port p).aperture with slots := Sparse.set (s.port p).aperture.slots g m } := by
  simp [State.setSlot]

@[simp] theorem aperture_withdrawForPage (s : State) (p q : Port) (g : Nat) :
    ((s.withdrawForPage p g).port q).aperture = (s.port q).aperture := by
  simp [State.withdrawForPage]

/-- The release of a page takes it out of the port's table, and nothing else out of any table (R44). -/
theorem aperture_releasePage (s : State) (p q : Port) (g : Nat) :
    ((s.releasePage p g).port q).aperture =
      if q = p then { (s.port p).aperture with slots := Sparse.set (s.port p).aperture.slots g none }
      else (s.port q).aperture := by
  unfold State.releasePage
  split
  · rename_i hempty
    split
    · rename_i hq
      rw [hq, Sparse.set_none_of_get hempty]
    · rfl
  · rw [(unhold_quiet _ _).aperture]
    split
    · rename_i hq
      rw [hq, aperture_setSlot_same, aperture_withdrawForPage]
    · rename_i hq
      rw [aperture_setSlot_ne _ hq, aperture_withdrawForPage]

theorem aperture_releasePages (s : State) (p q : Port) (gs : List Nat) :
    ((s.releasePages p gs).port q).aperture =
      if q = p then
        { (s.port p).aperture with
          slots := gs.foldl (fun l g => Sparse.set l g none) (s.port p).aperture.slots }
      else (s.port q).aperture := by
  induction gs generalizing s with
  | nil =>
    rw [State.releasePages, List.foldl_nil]
    split
    · rename_i hq; rw [hq]; rfl
    · rfl
  | cons g gs ih =>
    rw [State.releasePages, List.foldl_cons]
    refine (ih _).trans ?_
    rw [aperture_releasePage, aperture_releasePage, if_pos rfl]
    split <;> rfl

/-- After the release of all its mappings a port maps nothing (R55). -/
theorem slots_releaseAll (s : State) (p : Port) : ((s.releaseAll p).port p).aperture.slots = [] := by
  rw [State.releaseAll, aperture_releasePages, if_pos rfl]
  exact Sparse.foldl_set_none _

@[simp] theorem aperture_discardEntry (s : State) (p q : Port) (e : Entry) :
    ((s.discardEntry p e).port q).aperture = (s.port q).aperture := by
  unfold State.discardEntry
  split
  · split
    · rw [(unpin_quiet _ _).aperture]
      split
      · rw [aperture_modRequests]
      · rfl
    · rfl
  · rfl

theorem aperture_foldl_discard (l : List Entry) (s : State) (p q : Port) :
    ((l.foldl (fun t e => t.discardEntry p e) s).port q).aperture = (s.port q).aperture := by
  induction l generalizing s with
  | nil => rfl
  | cons e l ih => rw [List.foldl_cons, ih, aperture_discardEntry]

@[simp] theorem aperture_tearQueues (s : State) (p q : Port) :
    ((s.tearQueues p).port q).aperture = (s.port q).aperture := by
  simp [State.tearQueues, aperture_foldl_discard]

@[simp] theorem aperture_removeOffersOf (s : State) (p q : Port) :
    ((s.removeOffersOf p).port q).aperture = (s.port q).aperture := by
  simp [State.removeOffersOf]

@[simp] theorem aperture_vacateRole (s : State) (p q : Port) :
    ((s.vacateRole p).port q).aperture = (s.port q).aperture := by
  unfold State.vacateRole; split <;> simp

theorem pool_removeOffersOf (s : State) (p : Port) : (s.removeOffersOf p).pool = s.pool := by
  rw [State.removeOffersOf, pool_raiseOfferNotices, pool_modShare]

theorem pool_vacateRole (s : State) (p : Port) : (s.vacateRole p).pool = s.pool := by
  unfold State.vacateRole; split <;> simp

/-- A port does not hold the role after it was vacated for it (R193). -/
theorem role_vacateRole_ne (s : State) (p : Port) : (s.vacateRole p).role ≠ .held p := by
  unfold State.vacateRole
  split
  · simp
  · rename_i hrole
    simpa [State.isAdmin] using hrole

/-! ### A teardown before its end (R186) -/

/-- Steps 1 to 6 of a teardown. -/
def State.tornDown (s : State) (p : Port) (cause : TeardownCause) : State :=
  (((((s.modSession p fun c => { c with state := .teardown, cause := some cause }).modTransmit p
    TransmitUnit.clearForTeardown).tearQueues p).removeOffersOf p).vacateRole p).releaseAll p

theorem startTeardown_eq (s : State) (p : Port) (cause : TeardownCause) :
    s.startTeardown p cause = (s.tornDown p cause).endTeardownIfEmpty p := rfl

theorem tornDown_torn (s : State) (p : Port) (cause : TeardownCause) : Torn p s (s.tornDown p cause) :=
  (((((modSession_torn s p _).trans (clearForTeardown_torn _ p)).trans (tearQueues_torn _ p)).trans
    ((removeOffersOf_settles _ p).torn p)).trans (vacateRole_torn _ p)).trans
      ((releaseAll_settles _ p).torn p)

theorem session_tornDown (s : State) (p : Port) (cause : TeardownCause) :
    ((s.tornDown p cause).port p).session =
      { (s.port p).session with state := .teardown, cause := some cause } := by
  rw [State.tornDown, ((releaseAll_settles _ p).port p).session, session_vacateRole,
    ((removeOffersOf_settles _ p).port p).session, session_tearQueues]
  simp

theorem entries_tornDown (s : State) (p : Port) (cause : TeardownCause) :
    ((s.tornDown p cause).port p).requests.entries = (s.port p).requests.entries.filter Entry.inMem := by
  rw [State.tornDown, ((releaseAll_settles _ p).port p).requests, requests_vacateRole,
    ((removeOffersOf_settles _ p).port p).requests, entries_tearQueues]
  simp

theorem slots_tornDown (s : State) (p : Port) (cause : TeardownCause) :
    ((s.tornDown p cause).port p).aperture.slots = [] := by
  rw [State.tornDown, slots_releaseAll]

theorem aperture_tornDown_ne (s : State) {p q : Port} (h : q ≠ p) (cause : TeardownCause) :
    ((s.tornDown p cause).port q).aperture = (s.port q).aperture := by
  rw [State.tornDown, State.releaseAll, aperture_releasePages, if_neg h]
  simp

theorem role_tornDown_ne (s : State) (p : Port) (cause : TeardownCause) :
    (s.tornDown p cause).role ≠ .held p := by
  rw [State.tornDown, (releaseAll_settles _ p).role]
  exact role_vacateRole_ne _ p

theorem canonical_tornDown {s : State} (h : s.pool.Canonical) (p : Port) (cause : TeardownCause) :
    (s.tornDown p cause).pool.Canonical := by
  refine canonical_releasePages ?_ p _
  rw [pool_vacateRole, pool_removeOffersOf]
  exact canonical_tearQueues (s := (s.modSession p _).modTransmit p _) h p

end Sys2Proof.Machine
end

section
/-! SUPPORT. Sessions in order: the stored data canonical, the role in session, a port out of session empty; and that each
operation keeps them. -/

namespace Sys2Proof.Machine

/-! ### A port and a state in order -/

/-- A port's part: its page slots in rising order; out of session it maps nothing; a disable is pending in TEARDOWN only;
in TEARDOWN its entries are IN_MEMORY, one at least, and CLOSED or DISABLED it has none. -/
structure PortState.InOrder (q : PortState) : Prop where
  rising : Sparse.rising q.aperture.slots = true
  unmapped : q.session.state.inSession = false → q.aperture.slots = []
  disable : q.session.disablePending = true → q.session.state = .teardown
  teardown : q.session.state = .teardown →
    q.requests.entries ≠ [] ∧ q.requests.entries.all Entry.inMem = true
  closed : q.session.state = .closed ∨ q.session.state = .disabled → q.requests.entries = []

/-- Every port in order, the frame records and the DRAM canonical, and the role held in session only. -/
structure State.InOrder (s : State) : Prop where
  ports : ∀ p, (s.port p).InOrder
  pool : s.pool.Canonical
  dram : s.dram.wf = true
  holder : s.HolderInSession

/-- Port by port is property by property. -/
theorem inOrder_iff (s : State) :
    s.InOrder ↔
      s.Canonical ∧ s.HolderInSession ∧ s.DisablePendingInTeardown ∧ s.OutOfSessionIsEmpty := by
  constructor
  · intro h
    exact ⟨⟨Dram.bytes_wf h.dram, Dram.flaws_wf h.dram, h.pool.rising, h.pool.listed,
        fun p => (h.ports p).rising⟩, h.holder, fun p => (h.ports p).disable,
      ⟨fun p => (h.ports p).unmapped, fun p => (h.ports p).teardown, fun p => (h.ports p).closed⟩⟩
  · rintro ⟨hcanonical, hholder, hdisable, hempty⟩
    exact ⟨fun p => ⟨hcanonical.apertures p, hempty.apertures p, hdisable p, hempty.teardown p,
      hempty.closed p⟩, ⟨hcanonical.frames, hcanonical.listed⟩, Canonical.dram_wf hcanonical, hholder⟩

theorem inSession_cases (st : SessionState) :
    st.inSession = true ↔ st ≠ .teardown ∧ ¬(st = .closed ∨ st = .disabled) := by
  cases st <;> simp [SessionState.inSession]

/-- A port with the same session, entries and page slots. -/
theorem PortState.InOrder.of_same {a b : PortState} (h : a.InOrder) (hsession : b.session = a.session)
    (hentries : b.requests.entries = a.requests.entries) (hslots : b.aperture.slots = a.aperture.slots) :
    b.InOrder := by
  refine ⟨hslots ▸ h.rising, fun hout => ?_, ?_, ?_, ?_⟩
  · rw [hslots]; exact h.unmapped (hsession ▸ hout)
  · rw [hsession]; exact h.disable
  · rw [hsession, hentries]; exact h.teardown
  · rw [hsession, hentries]; exact h.closed

/-- A port whose entries go from none to none, and stay as they are in TEARDOWN. -/
theorem PortState.InOrder.requests {q : PortState} (h : q.InOrder) {r : RequestUnit}
    (hnone : q.requests.entries = [] → r.entries = [])
    (hteardown : q.session.state = .teardown → r.entries = q.requests.entries) :
    ({ q with requests := r } : PortState).InOrder := by
  refine ⟨h.rising, h.unmapped, h.disable, fun ht => ?_, fun hc => hnone (h.closed hc)⟩
  simp only at ht ⊢
  rw [hteardown ht]
  exact h.teardown ht

/-- A port in session with no disable pending. -/
theorem PortState.InOrder.of_inSession {q : PortState} (hrising : Sparse.rising q.aperture.slots = true)
    (hsession : q.session.state.inSession = true) (hdisable : q.session.disablePending = false) :
    q.InOrder := by
  obtain ⟨hteardown, hclosed⟩ := (inSession_cases _).1 hsession
  exact ⟨hrising, fun hout => absurd hsession (by simp [hout]), fun hd => absurd hd (by simp [hdisable]),
    fun ht => absurd ht hteardown, fun hc => absurd hc hclosed⟩

/-- A port out of a teardown has no disable pending. -/
theorem PortState.InOrder.noDisable {q : PortState} (h : q.InOrder) (hstate : q.session.state ≠ .teardown) :
    q.session.disablePending = false :=
  Bool.eq_false_iff.2 fun hd => hstate (h.disable hd)

/-! ### Updates of the state -/

section
variable {s : State} (h : s.InOrder)
include h

/-- A change of the pool and of notices, with the frame records canonical. -/
theorem State.InOrder.quiet {t : State} (hquiet : Quiet s t) (hpool : t.pool.Canonical) : t.InOrder := by
  refine ⟨fun p => (h.ports p).of_same (hquiet.settles.port p).session ?_ ?_, hpool, ?_, fun p hp => ?_⟩
  · rw [(hquiet.settles.port p).requests]
  · rw [hquiet.aperture]
  · rw [hquiet.settles.rest.dram]; exact h.dram
  · rw [hquiet.settles.inSession]
    exact h.holder p (hquiet.settles.role ▸ hp)

/-- A change of notices alone. -/
theorem State.InOrder.noticed {t : State} (hquiet : Quiet s t) (hpool : t.pool = s.pool) : t.InOrder :=
  h.quiet hquiet (hpool ▸ h.pool)

/-- A change of one port that does not take it out of session. -/
theorem State.InOrder.modPort {p : Port} {g : PortState → PortState} (hg : (g (s.port p)).InOrder)
    (hin : s.inSession p = true → (g (s.port p)).session.state.inSession = true) :
    (s.modPort p g).InOrder := by
  refine ⟨fun q => ?_, h.pool, h.dram, fun q hq => ?_⟩
  · by_cases hqp : q = p
    · subst hqp; rwa [port_modPort_same]
    · rw [port_modPort_ne s hqp]; exact h.ports q
  · have hsession := h.holder q hq
    by_cases hqp : q = p
    · subst hqp; rw [State.inSession, port_modPort_same]; exact hin hsession
    · rw [State.inSession, port_modPort_ne s hqp]; exact hsession

theorem State.InOrder.modLink (p : Port) (g : LinkUnit → LinkUnit) : (s.modLink p g).InOrder :=
  h.modPort ((h.ports p).of_same rfl rfl rfl) id

theorem State.InOrder.modTransmit (p : Port) (g : TransmitUnit → TransmitUnit) :
    (s.modTransmit p g).InOrder :=
  h.modPort ((h.ports p).of_same rfl rfl rfl) id

theorem State.InOrder.send (p : Port) (f : LinkFrame) : (s.send p f).InOrder :=
  h.modPort ((h.ports p).of_same rfl rfl rfl) id

theorem State.InOrder.modRequests {p : Port} {g : RequestUnit → RequestUnit}
    (hnone : (s.port p).requests.entries = [] → (g (s.port p).requests).entries = [])
    (hteardown : (s.port p).session.state = .teardown →
      (g (s.port p).requests).entries = (s.port p).requests.entries) : (s.modRequests p g).InOrder :=
  h.modPort ((h.ports p).requests hnone hteardown) id

theorem State.InOrder.modSession {p : Port} {g : PortController → PortController}
    (hg : ({ s.port p with session := g (s.port p).session } : PortState).InOrder)
    (hin : s.inSession p = true → (g (s.port p).session).state.inSession = true) :
    (s.modSession p g).InOrder :=
  h.modPort hg hin

/-- A page slot filled in session, or emptied. -/
theorem State.InOrder.setSlot {p : Port} {m : Option Mapping} (hm : s.inSession p = false → m = none) (g : Nat) :
    (s.setSlot p g m).InOrder := by
  obtain ⟨hrising, hunmapped, hdisable, hteardown, hclosed⟩ := h.ports p
  have hslots : s.inSession p = false → Sparse.set (s.port p).aperture.slots g m = [] := fun hout => by
    rw [hm hout, hunmapped hout]
    rfl
  exact h.modPort (p := p)
    (g := fun q => { q with aperture := { q.aperture with slots := Sparse.set q.aperture.slots g m } })
    ⟨Sparse.rising_set g m hrising, hslots, hdisable, hteardown, hclosed⟩ id

theorem State.InOrder.modShare (g : ShareUnit → ShareUnit) : (s.modShare g).InOrder :=
  ⟨h.ports, h.pool, h.dram, h.holder⟩

theorem State.InOrder.modPool {g : PoolManager → PoolManager} (hg : (g s.pool).Canonical) :
    (s.modPool g).InOrder :=
  ⟨h.ports, hg, h.dram, h.holder⟩

/-- Changes outside the ports, the frame records, the DRAM and the role. -/
theorem State.InOrder.of_unit {t : State} (hports : t.ports = s.ports) (hframes : t.pool.frames = s.pool.frames)
    (hdram : t.dram = s.dram) (hrole : t.role = s.role) : t.InOrder := by
  have hport : ∀ p, t.port p = s.port p := fun p => by rw [State.port, State.port, hports]
  refine ⟨fun p => hport p ▸ h.ports p, h.pool.of_frames hframes, hdram ▸ h.dram, fun p hp => ?_⟩
  rw [State.inSession, hport]
  exact h.holder p (hrole ▸ hp)

theorem State.InOrder.reachTime (d : Nat) : (s.reachTime d).InOrder := h.of_unit rfl rfl rfl rfl

theorem State.InOrder.raiseNotice (p : Port) (n : Notice) : (s.raiseNotice p n).InOrder :=
  h.noticed (raiseNotice_quiet s p n) (pool_raiseNotice s p n)

theorem State.InOrder.raisePortState (p : Port) (st : SessionState) (c : SessionCause) :
    (s.raisePortState p st c).InOrder :=
  h.noticed (raisePortState_quiet s p st c) (pool_raisePortState s p st c)

/-- Looking for an entry to present brings no entry, and does nothing in TEARDOWN (R106, R116). -/
theorem State.InOrder.present (p : Port) : (s.present p).InOrder := by
  refine h.modRequests (fun hnone => ?_) fun hteardown => ?_
  · have hlength := (present_keeps (s.port p).requests (s.port p).session.state).2.2.2.2.2
    rwa [hnone, List.length_nil, List.length_eq_zero_iff] at hlength
  · rw [RequestUnit.present, if_pos (.inl hteardown)]

theorem State.InOrder.removeOffer (n : Byte) : (s.removeOffer n).InOrder := h.modShare _

theorem State.InOrder.releasePage (p : Port) (g : Nat) : (s.releasePage p g).InOrder := by
  unfold State.releasePage
  split
  · exact h
  · have hwithdrawn : (s.withdrawForPage p g).InOrder :=
      (h.modShare _).noticed (raiseOfferNotices_quiet _ _ _) (pool_raiseOfferNotices _ _ _)
    have hcleared := hwithdrawn.setSlot (p := p) (fun _ => rfl) g
    exact hcleared.quiet (unhold_quiet _ _) (canonical_unhold hcleared.pool _)

/-- The role given to a port in session. -/
theorem State.InOrder.giveRole {p : Port} (hp : s.inSession p = true) : (s.giveRole p).InOrder := by
  have hheld : ({ s with role := .held p } : State).InOrder := by
    refine ⟨h.ports, h.pool, h.dram, fun q hq => ?_⟩
    cases hq
    exact hp
  exact hheld.noticed (raiseAdminChanged_quiet _ _) (pool_raiseAdminChanged _ _)

end

theorem State.InOrder.releasePages {s : State} (h : s.InOrder) (p : Port) (gs : List Nat) :
    (s.releasePages p gs).InOrder := by
  induction gs generalizing s with
  | nil => exact h
  | cons g gs ih => exact ih (h.releasePage p g)

/-! ### The end of a session (R186 to R188) -/

/-- In order but for a port in TEARDOWN whose entries may all have gone. -/
structure State.Ending (p : Port) (s : State) : Prop where
  others : ∀ q, q ≠ p → (s.port q).InOrder
  pool : s.pool.Canonical
  dram : s.dram.wf = true
  holder : s.HolderInSession
  session : (s.port p).session.state = .teardown
  slots : (s.port p).aperture.slots = []
  entries : (s.port p).requests.entries.all Entry.inMem = true

theorem endState_eq (c : PortController) : c.endState = .disabled ∨ c.endState = .closed := by
  unfold PortController.endState
  split
  · exact .inl rfl
  · exact .inr rfl

/-- The session's end, before its notices. -/
theorem endTeardown_quiet (s : State) (p : Port) :
    Quiet (s.modSession p fun c => { c with state := c.endState, disablePending := false })
      (s.endTeardown p) ∧ (s.endTeardown p).pool = s.pool := by
  have hraised := raisePortState_quiet
    (s.modSession p fun c => { c with state := c.endState, disablePending := false }) p
    (s.port p).session.endState (s.port p).session.endCause
  unfold State.endTeardown State.raiseSessionEnded
  simp only
  split
  · exact ⟨hraised.trans (enterNotice_quiet _ _ _), by rw [pool_enterNotice, pool_raisePortState]; rfl⟩
  · split
    · exact ⟨hraised.trans (enterNotice_quiet _ _ _), by rw [pool_enterNotice, pool_raisePortState]; rfl⟩
    · exact ⟨hraised, by rw [pool_raisePortState]; rfl⟩

section
variable {p : Port} {s : State} (h : s.Ending p)
include h

theorem State.Ending.role_ne : s.role ≠ .held p := by
  intro hrole
  have hin := h.holder p hrole
  rw [State.inSession, h.session] at hin
  cases hin

/-- The session ends with no entry left, in CLOSED or in DISABLED. -/
theorem State.Ending.endSession (hentries : (s.port p).requests.entries = []) :
    (s.modSession p fun c => { c with state := c.endState, disablePending := false }).InOrder := by
  refine ⟨fun q => ?_, h.pool, h.dram, fun q hq => ?_⟩
  · by_cases hqp : q = p
    · subst hqp
      have hstate := endState_eq (s.port q).session
      have hne : ¬(s.port q).session.endState = .teardown := by rcases hstate with h | h <;> simp [h]
      refine ⟨?_, fun _ => ?_, ?_, ?_, fun _ => ?_⟩
      · simp [h.slots, Sparse.rising]
      · simp [h.slots]
      · simp
      · simp [hne]
      · simp [hentries]
    · rw [port_modSession_ne s hqp]; exact h.others q hqp
  · have hqp : q ≠ p := fun e => h.role_ne (e ▸ hq)
    rw [State.inSession, port_modSession_ne s hqp]
    exact h.holder q hq

/-- A teardown ends when no entry is left, and waits otherwise (R98, R188). -/
theorem State.Ending.endTeardownIfEmpty : (s.endTeardownIfEmpty p).InOrder := by
  unfold State.endTeardownIfEmpty
  split
  · rename_i hentries
    obtain ⟨hquiet, hpool⟩ := endTeardown_quiet s p
    exact (h.endSession hentries).noticed hquiet hpool
  · rename_i hentries
    refine ⟨fun q => ?_, h.pool, h.dram, h.holder⟩
    by_cases hqp : q = p
    · subst hqp
      refine ⟨?_, fun _ => h.slots, fun _ => h.session, fun _ => ⟨hentries, h.entries⟩, fun hc => ?_⟩
      · rw [h.slots]; rfl
      · rw [h.session] at hc
        simp at hc
    · exact h.others q hqp

end

theorem all_inMem_filter (es : List Entry) : (es.filter Entry.inMem).all Entry.inMem = true := by
  simp

/-- Steps 1 to 6 of a teardown (R186): nothing is mapped, the role is vacated, the entries IN_MEMORY are left. -/
theorem State.InOrder.tornDown {s : State} (h : s.InOrder) (p : Port) (cause : TeardownCause) :
    (s.tornDown p cause).Ending p := by
  have htorn := tornDown_torn s p cause
  refine ⟨fun q hq => (h.ports q).of_same (htorn.session hq) ?_ ?_, canonical_tornDown h.pool p cause, ?_,
    fun q hq => ?_, ?_, slots_tornDown s p cause, ?_⟩
  · rw [(htorn.others q hq).requests]
  · rw [aperture_tornDown_ne s hq]
  · rw [htorn.rest.dram]; exact h.dram
  · have hqp : q ≠ p := by rintro rfl; exact role_tornDown_ne s q cause hq
    rw [State.inSession, htorn.session hqp]
    rcases htorn.role with hsame | ⟨-, hvacant⟩
    · exact h.holder q (hsame ▸ hq)
    · rw [hvacant] at hq; cases hq
  · rw [session_tornDown]
  · rw [entries_tornDown]; exact all_inMem_filter _

theorem State.InOrder.startTeardown {s : State} (h : s.InOrder) (p : Port) (cause : TeardownCause) :
    (s.startTeardown p cause).InOrder := by
  rw [startTeardown_eq]
  exact (h.tornDown p cause).endTeardownIfEmpty

/-- In TEARDOWN entries go (R98). -/
theorem State.InOrder.discarding {s : State} (h : s.InOrder) {p : Port}
    (hstate : (s.port p).session.state = .teardown) {es : List Entry}
    (hes : es.Sublist (s.port p).requests.entries) : (s.discarding p es).Ending p := by
  refine ⟨fun q hq => ?_, h.pool, h.dram, fun q hq => ?_, ?_, ?_, ?_⟩
  · rw [State.discarding, port_modRequests_ne s hq]; exact h.ports q
  · simpa [State.inSession, State.discarding] using h.holder q hq
  · simpa [State.discarding] using hstate
  · have hout : (s.port p).session.state.inSession = false := by rw [hstate]; rfl
    simpa [State.discarding] using (h.ports p).unmapped hout
  · rw [entries_discarding]
    have hall := ((h.ports p).teardown hstate).2
    rw [List.all_eq_true] at hall ⊢
    exact fun e he => hall e (hes.subset he)

section
variable {s : State} (h : s.InOrder)
include h

theorem State.InOrder.loseLink (p : Port) (st : LinkState) : (s.loseLink p st).InOrder := by
  have hcleared : ((s.modLink p fun l => l.lose st s.now).modTransmit p
      TransmitUnit.clearForLinkLoss).InOrder := (h.modLink p _).modTransmit p _
  unfold State.loseLink
  simp only
  split
  · exact hcleared.startTeardown p _
  · exact hcleared

/-- The completion of a port's operation (R98, R109, R110, R188). -/
theorem State.InOrder.requestCompleted (p : Port) (g : Entry → Entry) : (s.requestCompleted p g).InOrder := by
  unfold State.requestCompleted
  split
  · rename_i hstate
    exact (h.discarding hstate (removeFirst_sublist Entry.inMem _)).endTeardownIfEmpty
  · rename_i hstate
    refine State.InOrder.present (h.modRequests (fun hnone => ?_) fun ht => absurd ht hstate) p
    rw [RequestUnit.complete, hnone]
    rfl

end

/-! ### A port in session -/

/-- In order, with this port in session. -/
structure State.Serving (p : Port) (s : State) : Prop where
  order : s.InOrder
  session : s.inSession p = true

section
variable {p : Port} {s : State} (h : s.Serving p)
include h

theorem State.Serving.settles {t : State} (hsettles : Settles s t) (ht : t.InOrder) : t.Serving p :=
  ⟨ht, by rw [hsettles.inSession]; exact h.session⟩

theorem State.Serving.quiet {t : State} (hquiet : Quiet s t) (hpool : t.pool.Canonical) : t.Serving p :=
  h.settles hquiet.settles (h.order.quiet hquiet hpool)

theorem State.Serving.noDisable : (s.port p).session.disablePending = false :=
  (h.order.ports p).noDisable ((inSession_cases _).1 h.session).1

/-- A port in session may hold any entries. -/
theorem State.Serving.modRequests (g : RequestUnit → RequestUnit) : (s.modRequests p g).Serving p := by
  refine ⟨h.order.modPort ?_ id, by simpa [State.inSession] using h.session⟩
  exact .of_inSession (h.order.ports p).rising h.session h.noDisable

theorem State.Serving.fillSlot (g : Nat) (m : Option Mapping) : (s.setSlot p g m).Serving p := by
  refine h.settles (setSlot_settles s p g m) (h.order.setSlot (fun hout => ?_) g)
  rw [h.session] at hout
  cases hout

theorem State.Serving.present : (s.present p).Serving p := by
  refine ⟨h.order.present p, ?_⟩
  rw [State.inSession, session_present]
  exact h.session

/-- An accepted request's entry joins its queue. -/
theorem State.Serving.enqueue (e : Entry) : (s.enqueue p e).Serving p := (h.modRequests _).present

theorem State.Serving.acceptBarrier (k : RequestKind) (f : RequestFrame) : (s.acceptBarrier p k f).Serving p := by
  unfold State.acceptBarrier
  simp only
  split
  · exact h.enqueue _
  · exact h.enqueue _

theorem State.Serving.giveRole {q : Port} (hq : s.inSession q = true) : (s.giveRole q).Serving p := by
  refine ⟨h.order.giveRole hq, ?_⟩
  simpa [State.giveRole, State.inSession] using h.session

theorem State.Serving.raiseNotice (q : Port) (n : Notice) : (s.raiseNotice q n).Serving p :=
  h.settles (raiseNotice_quiet s q n).settles (h.order.raiseNotice q n)

theorem State.Serving.removeOffer (n : Byte) : (s.removeOffer n).Serving p :=
  h.settles (removeOffer_settles s n) (h.order.removeOffer n)

/-- The teardown of another port. -/
theorem State.Serving.startTeardown {q : Port} (hq : q ≠ p) (cause : TeardownCause) :
    (s.startTeardown q cause).Serving p := by
  refine ⟨h.order.startTeardown q cause, ?_⟩
  rw [State.inSession, (startTeardown_torn s q cause).session hq.symm]
  exact h.session

/-- A change of another port's session. -/
theorem State.Serving.modSession_ne {q : Port} (hq : q ≠ p) {g : PortController → PortController}
    (hg : (s.modSession q g).InOrder) : (s.modSession q g).Serving p := by
  refine ⟨hg, ?_⟩
  rw [State.inSession, port_modSession_ne s hq.symm]
  exact h.session

end

theorem State.Serving.mapFrames {p : Port} {s : State} (h : s.Serving p) (g : Nat) (fs : List Nat) :
    (s.mapFrames p g fs).Serving p := by
  induction fs generalizing s g with
  | nil => exact h
  | cons f fs ih => exact ih (h.fillSlot g _) _

end Sys2Proof.Machine
end

section
/-! SUPPORT. Sessions in order: what each command does to them, and one step. -/

namespace Sys2Proof.Machine

/-! ### What the requests do -/

/-- A request that passed the checks met its port OPEN, an OPEN met it CLOSED (R81, R82). -/
theorem session_of_refusalOf_none {s : State} {p : Port} {k : RequestKind} {f : RequestFrame}
    (h : s.refusalOf p k f = none) :
    (s.port p).session.state = if k = .openSession then .closed else .opened := by
  unfold State.refusalOf State.refusalAfterDecode at h
  split at h
  · split at h
    · cases h
    · rename_i hsession
      by_cases hk : k = .openSession
      · cases hstate : (s.port p).session.state <;> simp [hstate, hk, sessionRefusal] at hsession ⊢
      · have hother : (k == RequestKind.openSession) = false := by simpa using hk
        cases hstate : (s.port p).session.state <;>
          simp [hstate, hother, hk, sessionRefusal] at hsession h ⊢
  · cases h

/-- A request but OPEN that passed the checks met its port in session. -/
theorem State.InOrder.serving {s : State} (h : s.InOrder) {p : Port} {k : RequestKind} {f : RequestFrame}
    (hk : k ≠ .openSession) (hpasses : s.refusalOf p k f = none) : s.Serving p := by
  refine ⟨h, ?_⟩
  rw [State.inSession, session_of_refusalOf_none hpasses, if_neg hk]
  rfl

theorem State.InOrder.setQuota {s : State} (h : s.InOrder) (p : Port) (quota : Nat) :
    (s.modAperture p fun a => { a with quota := quota }).InOrder :=
  h.modPort ((h.ports p).of_same rfl rfl rfl) id

section
variable {p : Port} {s : State} (h : s.Serving p)
include h

theorem State.Serving.alloc (x : List Byte) : (s.alloc p x).state.Serving p := by
  unfold State.alloc
  simp only
  split
  · exact h
  · split
    · exact h
    · split
      · exact h
      · split
        · exact h
        · exact (h.quiet (take_quiet s p _) (canonical_take h.order.pool p _)).mapFrames _ _

theorem State.Serving.release (x : List Byte) : (s.release p x).state.Serving p := by
  unfold State.release
  simp only
  split
  · exact h
  · split
    · exact h
    · exact h.settles (releasePages_settles s p _) (h.order.releasePages p _)

theorem State.Serving.createOffer (o : Offer) : (s.createOffer o).Serving p :=
  State.Serving.raiseNotice (h.settles (modShare_settles s _) (h.order.modShare _)) _ _

theorem State.Serving.offer (x : List Byte) : (s.offer p x).state.Serving p := by
  have hmapping : ∀ target page rights m, (s.offerMapping p target page rights m).state.Serving p := by
    intro target page rights m
    unfold State.offerMapping
    split
    · exact h
    · split
      · exact h
      · split
        · exact h
        · split
          · exact h
          · split
            · exact h
            · exact h.createOffer _
  unfold State.offer
  simp only
  split
  · exact h
  · split
    · split
      · exact h
      · split
        · exact hmapping _ _ _ _
        · exact h
    · exact h
    · exact h

theorem State.Serving.mapAccepted (g : Nat) (o : Offer) : (s.mapAccepted p g o).Serving p := by
  have hfilled := h.fillSlot g (some { frame := o.frame, rights := o.rights, origin := .accepted })
  exact hfilled.quiet (hold_quiet _ _) (canonical_hold hfilled.order.pool _)

theorem State.Serving.acceptOffer (x : List Byte) : (s.acceptOffer p x).state.Serving p := by
  unfold State.acceptOffer
  simp only
  split
  · exact h
  · split
    · exact h
    · split
      · exact h
      · split
        · exact h
        · exact ((h.removeOffer _).mapAccepted _ _).raiseNotice _ _

theorem State.Serving.declineOffer (x : List Byte) : (s.declineOffer p x).state.Serving p := by
  unfold State.declineOffer
  simp only
  split
  · exact h
  · exact (h.removeOffer _).raiseNotice _ _

theorem State.Serving.withdrawOffer (x : List Byte) : (s.withdrawOffer p x).state.Serving p := by
  unfold State.withdrawOffer
  simp only
  split
  · exact h
  · exact (h.removeOffer _).raiseNotice _ _

theorem State.Serving.setOrder (x : List Byte) : (s.setOrder p x).state.Serving p := by
  unfold State.setOrder
  simp only
  split
  · split
    · simp only [Answer.ok]
      exact h.modRequests _
    · exact h
  · exact h

theorem State.Serving.claimAdmin : (s.claimAdmin p).state.Serving p := by
  unfold State.claimAdmin
  split
  · exact h.giveRole h.session
  · split <;> exact h
  · exact h

theorem State.Serving.handAdmin (x : List Byte) : (s.handAdmin p x).state.Serving p := by
  unfold State.handAdmin
  split
  · exact h
  · split
    · exact h
    · split
      · rename_i hopened
        exact h.giveRole (by rw [State.inSession, hopened]; rfl)
      · exact h

/-- What an administrative request does to the pool, but for its frame records. -/
theorem State.Serving.modRegion (k : Slot) (g : Region → Region) : (s.modRegion k g).Serving p :=
  h.quiet (modRegion_quiet s k g) (h.order.pool.of_frames rfl)

theorem State.Serving.defineRegion (x : List Byte) : (s.defineRegion x).state.Serving p := by
  unfold State.defineRegion
  simp only
  split
  · exact h
  · split
    · exact h
    · split
      · exact h
      · simp only [Answer.ok]
        exact h.modRegion _ _

theorem State.Serving.undefineRegion (x : List Byte) : (s.undefineRegion x).state.Serving p := by
  unfold State.undefineRegion
  split
  · exact h
  · split
    · simp only [Answer.ok]
      exact h.modRegion _ _
    · exact h

theorem State.Serving.onlineRegion (x : List Byte) : (s.onlineRegion x).state.Serving p := by
  unfold State.onlineRegion
  split
  · exact h
  · split
    · exact h.quiet (bringOnline_quiet s _) (canonical_bringOnline h.order.pool _)
    · exact h

theorem State.Serving.retireRequest (x : List Byte) : (s.retireRequest x).state.Serving p := by
  unfold State.retireRequest
  split
  · exact h
  · split
    · exact h.quiet (startDrain_quiet s _ _) (canonical_startDrain h.order.pool _ _)
    · exact h

theorem State.Serving.setQuota (x : List Byte) : (s.setQuota x).state.Serving p := by
  unfold State.setQuota
  simp only
  split
  · exact h
  · split
    · exact h
    · split
      · exact h
      · simp only [Answer.ok]
        exact ⟨h.order.setQuota _ _, by simpa [State.inSession] using h.session⟩

/-- A change outside the ports, the frame records, the DRAM and the role. -/
theorem State.Serving.of_unit {t : State} (hports : t.ports = s.ports)
    (hframes : t.pool.frames = s.pool.frames) (hdram : t.dram = s.dram) (hrole : t.role = s.role) :
    t.Serving p := by
  refine ⟨h.order.of_unit hports hframes hdram hrole, ?_⟩
  rw [State.inSession, State.port, hports]
  exact h.session

theorem State.Serving.setWeight (x : List Byte) : (s.setWeight x).state.Serving p := by
  unfold State.setWeight
  simp only
  split
  · exact h.of_unit rfl rfl rfl rfl
  · exact h

theorem State.Serving.setOfferLife (v : Nat) : (s.setOfferLife v).state.Serving p := by
  unfold State.setOfferLife
  split
  · exact h.of_unit rfl rfl rfl rfl
  · exact h

theorem State.Serving.setHoldLimit (v : Nat) : (s.setHoldLimit v).state.Serving p := by
  unfold State.setHoldLimit
  split
  · exact h.of_unit rfl rfl rfl rfl
  · exact h

theorem State.Serving.setErrorLimit (v : Nat) : (s.setErrorLimit v).state.Serving p := by
  unfold State.setErrorLimit
  split
  · exact h.of_unit rfl rfl rfl rfl
  · exact h

theorem State.Serving.setReplayTimeout (v : Nat) : (s.setReplayTimeout v).state.Serving p := by
  unfold State.setReplayTimeout
  split
  · exact h.of_unit rfl rfl rfl rfl
  · exact h

end

/-- A port out of session and of a teardown goes from CLOSED to DISABLED or back (R190, R191). -/
theorem State.InOrder.setClosed {s : State} (h : s.InOrder) {q : Port} {st : SessionState}
    (hold : (s.port q).session.state = .closed ∨ (s.port q).session.state = .disabled)
    (hnew : st = .closed ∨ st = .disabled) : (s.modSession q fun c => { c with state := st }).InOrder := by
  have hq := h.ports q
  have hdisable := hq.noDisable fun ht => by rw [ht] at hold; simp at hold
  have hout : (s.port q).session.state.inSession = false := by rcases hold with h | h <;> rw [h] <;> rfl
  refine h.modSession ⟨hq.rising, fun _ => hq.unmapped hout, fun hd => ?_, fun ht => ?_, fun _ => hq.closed hold⟩
    fun hin => ?_
  · exact absurd hd (by simp [hdisable])
  · simp only at ht
    rw [ht] at hnew
    simp at hnew
  · rw [State.inSession, hout] at hin
    cases hin

section
variable {p : Port} {s : State} (h : s.Serving p)
include h

/-- DISABLE_PORT (R190): a session is torn down, a teardown is marked, a port out of session becomes DISABLED. -/
theorem State.Serving.disable {q : Port} (hq : q ≠ p) : (s.disable q).Serving p := by
  obtain ⟨hrising, hunmapped, -, hteardown, hclosed⟩ := h.order.ports q
  unfold State.disable
  split
  · exact h.startTeardown hq _
  · exact h.startTeardown hq _
  · rename_i hstate
    refine h.modSession_ne hq (h.order.modSession ?_ id)
    exact ⟨hrising, hunmapped, fun _ => hstate, hteardown, hclosed⟩
  · rename_i hstate
    have hdisabled := h.modSession_ne hq (h.order.setClosed (.inl hstate) (.inr rfl))
    exact hdisabled.settles (raisePortState_quiet _ _ _ _).settles (hdisabled.order.raisePortState _ _ _)
  · exact h

theorem State.Serving.disablePort (x : List Byte) : (s.disablePort p x).state.Serving p := by
  unfold State.disablePort
  split
  · exact h
  · split
    · exact h
    · rename_i hq
      exact h.disable hq

theorem State.Serving.enablePort (x : List Byte) : (s.enablePort x).state.Serving p := by
  unfold State.enablePort
  split
  · exact h
  · split
    · rename_i q _ hstate
      have hq : q ≠ p := by
        rintro rfl
        have hin := h.session
        rw [State.inSession, hstate] at hin
        cases hin
      have hclosed := h.modSession_ne hq (h.order.setClosed (.inr hstate) (.inl rfl))
      exact hclosed.settles (raisePortState_quiet _ _ _ _).settles (hclosed.order.raisePortState _ _ _)
    · exact h

theorem State.Serving.evictPort (x : List Byte) : (s.evictPort p x).state.Serving p := by
  unfold State.evictPort
  split
  · exact h
  · split
    · exact h
    · rename_i hq
      split
      · simp only [State.portAnswer, Answer.ok]
        exact h.startTeardown hq _
      · exact h

theorem State.Serving.administrative {act : State → Answer} (hact : (act s).state.Serving p) :
    (s.administrative p act).state.Serving p := by
  unfold State.administrative
  split
  · exact hact
  · exact h

theorem State.Serving.acceptRead (f : RequestFrame) : (s.acceptRead p f).Serving p := by
  unfold State.acceptRead
  simp only
  split
  · exact h.enqueue _
  · exact (h.quiet (pin_quiet s _) (canonical_pin h.order.pool _)).enqueue _

theorem State.Serving.acceptWrite (f : RequestFrame) : (s.acceptWrite p f).Serving p := by
  unfold State.acceptWrite
  simp only
  split
  · exact h.enqueue _
  · exact ((h.quiet (pin_quiet s _) (canonical_pin h.order.pool _)).modRequests _).enqueue _

/-- CLOSE leaves the port in session (R185). -/
theorem State.Serving.closing : (s.modSession p fun c => { c with state := .closing }).Serving p := by
  refine ⟨h.order.modSession ?_ fun _ => rfl, by simp [State.inSession, SessionState.inSession]⟩
  exact .of_inSession (h.order.ports p).rising rfl h.noDisable

end

/-- OPEN takes a CLOSED port into session (R184). -/
theorem State.InOrder.openSession {s : State} (h : s.InOrder) {p : Port}
    (hclosed : (s.port p).session.state = .closed) : (s.openSession p).state.Serving p := by
  have hopened : (s.modSession p fun c => { c with state := .opened }).Serving p := by
    refine ⟨h.modSession ?_ fun _ => rfl, by simp [State.inSession, SessionState.inSession]⟩
    exact .of_inSession (h.ports p).rising rfl ((h.ports p).noDisable (by simp [hclosed]))
  have hcounted := hopened.modRequests fun r => { r with nextExpedited := 0, nextOrdinary := 0 }
  unfold State.openSession
  simp only [Answer.ok]
  split
  · have hgiven := hcounted.giveRole hcounted.session
    exact hgiven.settles (raisePortState_quiet _ _ _ _).settles (hgiven.order.raisePortState _ _ _)
  · exact hcounted.settles (raisePortState_quiet _ _ _ _).settles (hcounted.order.raisePortState _ _ _)

/-! ### Request frames (R78 to R94) -/

/-- What arrives and is accepted keeps the order; so do a refusal and a frame that is not taken. -/
theorem State.InOrder.requestArrives {s : State} (h : s.InOrder) {p : Port} {k : RequestKind} {f : RequestFrame}
    {accept : State → State} (haccept : ∀ u, u.InOrder → u.refusalOf p k f = none → (accept u).InOrder) :
    (s.requestArrives p k f accept).InOrder :=
  requestArrives_induct (P := State.InOrder) h (fun _ => h.modLink p _) (fun _ hu => hu.modLink p _)
    (fun _ hu => hu.modLink p _) (fun _ hu => hu.modLink p _) (fun _ _ hu _ => hu.modTransmit p _) haccept

/-- A frame of unknown kind is refused: the refusal queue and the link change alone. -/
theorem State.InOrder.unknownArrives {s : State} (h : s.InOrder) (p : Port) (f : RequestFrame) :
    (s.receiveSequenced p f.seq fun t => t.refuse p f .malformed).InOrder := by
  have hoffered : ∀ u : State, u.InOrder →
      (u.offerInSequence p f.seq fun t => t.refuse p f .malformed).InOrder := by
    intro u hu
    unfold State.offerInSequence State.refuse
    by_cases hroom : (u.port p).transmit.refusals.length < Config.refusalPlaces
    · simp only [hroom, if_true]
      exact (hu.modTransmit p _).modLink p _
    · simp only [hroom, if_false]
      exact hu.modLink p _
  unfold State.receiveSequenced State.sequencedIntoUp State.sequencedInUp
  split
  · exact h
  · exact h
  · split
    · exact hoffered _ (h.modLink p _)
    · exact (h.modLink p _).modLink p _
  · split
    · exact hoffered s h
    · exact h.modLink p _
    · exact h.modLink p _

/-! ### New sequenced frames (R136 to R141) -/

/-- A reply that is chosen is that of a DONE entry of the port (R137, R139). -/
theorem done_of_source {q : PortState} {e : Entry} (h : q.source = some (.reply e)) :
    e ∈ q.requests.entries ∧ e.state = .done := by
  have hhead : ∀ c, q.requests.doneHead c = some e → e ∈ q.requests.entries ∧ e.state = .done := by
    intro c hc
    unfold RequestUnit.doneHead RequestUnit.head at hc
    split at hc
    · rename_i hx
      split at hc
      · rename_i hdone
        cases hc
        exact ⟨(List.mem_filter.1 (List.mem_of_mem_head? hx)).1, hdone⟩
      · cases hc
    · cases hc
  have hordinary : q.ordinaryReady = some e → e ∈ q.requests.entries ∧ e.state = .done := by
    unfold PortState.ordinaryReady
    split
    · exact nofun
    · exact hhead .ordinary
  have hburst : q.burstTurn = some e → e ∈ q.requests.entries ∧ e.state = .done := by
    unfold PortState.burstTurn
    split
    · exact hordinary
    · exact nofun
  unfold PortState.source at h
  split at h
  · rename_i hturn; cases h; exact hburst hturn
  · cases h
  · cases h
  · rename_i hready; cases h; exact hhead .expedited hready
  · rename_i hready; cases h; exact hordinary hready
  · cases h

/-- No entry leaves a port in TEARDOWN by a reply, since none is DONE (R97). -/
theorem PortState.InOrder.giveUp {q : PortState} (h : q.InOrder) {x : Source} (hx : q.source = some x) :
    (q.giveUp x).InOrder := by
  cases x with
  | refusal r => exact h.of_same rfl rfl rfl
  | notice n => exact h.of_same rfl rfl rfl
  | reply e =>
    obtain ⟨hmem, hdone⟩ := done_of_source hx
    refine PortState.InOrder.of_same (h.requests (r := { q.requests with
      entries := removeFirst (fun y => y.cls == e.cls) q.requests.entries }) (fun hnone => ?_) fun ht => ?_)
      rfl rfl rfl
    · rw [hnone] at hmem
      cases hmem
    · have hin := List.all_eq_true.1 (h.teardown ht).2 e hmem
      simp [Entry.inMem, hdone] at hin

theorem State.InOrder.transmitNew {s : State} (h : s.InOrder) (p : Port) : (s.transmitNew p).InOrder := by
  unfold State.transmitNew
  split
  · split
    · rename_i x hx
      have hsession : ((s.port p).giveUp x).session = (s.port p).session := by cases x <;> rfl
      have hgiven : (s.modPort p fun q => q.giveUp x).InOrder :=
        h.modPort ((h.ports p).giveUp hx) fun hin => by rw [hsession]; exact hin
      have hhanded : (s.handOver p x).InOrder := (hgiven.modLink p _).send p _
      unfold State.afterReply
      split
      · split
        · exact hhanded.startTeardown p _
        · exact hhanded
      · exact hhanded
      · exact hhanded
    · exact h
  · exact h

/-! ### The memory channel (Chapter 6) -/

theorem changeFirst_of_none {P : Entry → Bool} {g : Entry → Entry} {es : List Entry}
    (h : ∀ e ∈ es, P e = false) : changeFirst P g es = es := by
  induction es with
  | nil => rfl
  | cons e es ih =>
    rw [changeFirst, h e List.mem_cons_self, if_neg (by simp), ih fun x hx => h x (List.mem_cons_of_mem e hx)]

section
variable {s : State} (h : s.InOrder)
include h

/-- No entry of a port in TEARDOWN is PRESENTED. -/
theorem State.InOrder.tellGranted (x : Participant) : (s.tellGranted x).InOrder := by
  unfold State.tellGranted
  split
  · rename_i p
    refine State.InOrder.present (h.modRequests (fun hnone => ?_) fun ht => ?_) p
    · simp only [hnone]
      rfl
    · refine changeFirst_of_none fun e he => ?_
      have hin := List.all_eq_true.1 ((h.ports p).teardown ht).2 e he
      simp only [Entry.inMem, beq_iff_eq] at hin
      simp [hin]
  · refine h.modPool ?_
    split
    · exact h.pool.of_frames rfl
    · exact h.pool
    · exact h.pool

theorem State.InOrder.grantTo (x : Participant) (o : Operation) : (s.grantTo x o).InOrder := by
  rw [grantTo_eq]
  exact State.InOrder.tellGranted (s := s.granting x o _) (h.of_unit rfl rfl rfl rfl) x

theorem State.InOrder.takeGrant : s.takeGrant.InOrder := by
  unfold State.takeGrant
  split
  · split
    · exact h.grantTo _ _
    · exact h
  · exact h
  · exact h

/-- The DRAM after an operation, with its flaws and bytes in rising order. -/
theorem State.InOrder.withDram {t : State} (hports : t.ports = s.ports) (hpool : t.pool = s.pool)
    (hdram : t.dram.wf = true) (hrole : t.role = s.role) : t.InOrder := by
  have hsame : ({ t with dram := s.dram } : State).InOrder := h.of_unit hports (by rw [hpool]) rfl hrole
  exact ⟨hsame.ports, hsame.pool, hdram, hsame.holder⟩

theorem State.InOrder.readCompleted (p : Port) (o : Operation) (reports : List LineReport) :
    (s.readCompleted p o reports).InOrder := by
  rw [readCompleted_eq]
  have hkept : ({ s with
      inFlight := none
      dram := s.dram.afterRead (dramLine o.frame o.firstLine) o.lineCount reports
      freeIndex := s.freeIndex + 1 } : State).InOrder :=
    h.withDram rfl rfl (Dram.wf_keepLines h.dram _ _) rfl
  exact (hkept.quiet (readAccounted_quiet s o reports)
    (canonical_unpin (canonical_accountRead hkept.pool _ _) _)).requestCompleted p _

theorem wf_dramWritten (p : Port) (o : Operation) (reports : List LineReport) :
    (s.dramWritten p o reports).wf = true := by
  unfold State.dramWritten
  split
  · split
    · exact Dram.wf_writeLines h.dram _ _ _ _ _
    · exact h.dram
    · exact h.dram
  · exact h.dram

theorem State.InOrder.writeCompleted (p : Port) (o : Operation) (reports : List LineReport) :
    (s.writeCompleted p o reports).InOrder := by
  have hwritten : ({ s with inFlight := none, dram := s.dramWritten p o reports } : State).InOrder :=
    h.withDram rfl rfl (wf_dramWritten h p o reports) rfl
  have hunpinned := hwritten.quiet (unpin_quiet _ o.frame) (canonical_unpin hwritten.pool _)
  exact (hunpinned.modRequests (fun hnone => hnone) fun _ => rfl).requestCompleted p _

theorem State.InOrder.zeroCompleted (o : Operation) : (s.zeroCompleted o).InOrder := by
  have hzeroed : ({ s with
      inFlight := none
      dram := s.dram.zeroLines (dramLine o.frame o.firstLine) o.lineCount } : State).InOrder :=
    h.withDram rfl rfl (Dram.wf_zeroLines h.dram _ _) rfl
  exact hzeroed.modPool (hzeroed.pool.scrubCompleted _)

/-! ### Timers -/

theorem State.InOrder.holdExpired (p : Port) : (s.holdExpired p).InOrder := by
  unfold State.holdExpired
  simp only
  split
  · exact ((h.modTransmit p _).modTransmit p _).raiseNotice p _
  · exact h.modTransmit p _

theorem State.InOrder.replayExpired (p : Port) : (s.replayExpired p).InOrder := by
  unfold State.replayExpired
  split
  · exact h.modLink p _
  · exact h.loseLink p _

end

/-! ### One step -/

/-- A command after which a property of the state still holds. -/
def Keeps (P : State → Prop) (i : Instr) : Prop := ∀ s t : State, P s → exec i s = .next t → P t

/-- A command that acts while RESET# is high, by what it does. -/
theorem Keeps.of_running {P : State → Prop} {i : Instr} {next : State → State}
    (hexec : ∀ s, exec i s = whenRunning s (next s)) (hnext : ∀ s, P s → P (next s)) : Keeps P i := by
  intro s t h ht
  rw [hexec, whenRunning_eq_next] at ht
  rw [ht]
  split
  · exact h
  · exact hnext s h

/-- What every command keeps a step keeps, if it does not depend on the time and the waiting commands. -/
theorem step_keeps {P : State → Prop} (hkeeps : ∀ i, Keeps P i)
    (htime : ∀ s now, P s → P { s with now := now })
    (hpending : ∀ s pending, P s → P { s with pending := pending }) {s t : State}
    (hstep : step s = .next t) (h : P s) : P t := by
  unfold step at hstep
  split at hstep
  · exact hkeeps _ _ t (hpending s _ h) hstep
  · cases hstep
    exact htime s _ h

/-- A request that acts at acceptance on a port in session. -/
theorem Keeps.serving {i : Instr} {p : Port} {k : RequestKind} {f : RequestFrame} {act : State → Answer}
    (hexec : ∀ s, exec i s = whenRunning s (s.requestArrives p k f fun t => t.acceptDone p k f act))
    (hk : k ≠ .openSession) (hact : ∀ s, s.Serving p → (act s).state.Serving p) : Keeps State.InOrder i :=
  .of_running hexec fun _ h => h.requestArrives fun _ hu hpasses =>
    ((hact _ (hu.serving hk hpasses)).enqueue _).order

/-- An administrative request. -/
theorem Keeps.administrative {i : Instr} {p : Port} {k : RequestKind} {f : RequestFrame} {act : State → Answer}
    (hexec : ∀ s, exec i s = whenRunning s (s.requestArrives p k f fun t =>
      t.acceptDone p k f fun u => u.administrative p act))
    (hk : k ≠ .openSession) (hact : ∀ s, s.Serving p → (act s).state.Serving p) : Keeps State.InOrder i :=
  .serving hexec hk fun s h => h.administrative (hact s h)

theorem inOrder_deviceReset (s : State) : s.deviceReset.InOrder := by
  have hreset : State.reset.InOrder := by
    refine (inOrder_iff _).2 ⟨reset_canonical, fun p hp => ?_, fun p hp => ?_, reset_outOfSession⟩
    · cases hp
    · rw [reset_port] at hp
      cases hp
  exact hreset.withDram rfl rfl rfl rfl

/-- The commands of the link, of the timers, of the memory channel and of the transmitter, and the requests. -/
theorem keeps_inOrder (i : Instr) : Keeps State.InOrder i := by
  cases i with
  | deviceReset =>
    intro s t _ ht
    cases ht
    exact inOrder_deviceReset s
  | resetRelease a =>
    intro s t h ht
    cases ht
    split
    · exact ⟨h.ports, h.pool, h.dram, fun p hp => by cases hp⟩
    · exact h
  | receiverLockGained p =>
    refine .of_running (fun _ => rfl) fun s h => ?_
    split
    · exact h.modLink p _
    all_goals exact h
  | receiverLockLost p =>
    refine .of_running (fun _ => rfl) fun s h => ?_
    split
    · exact h.loseLink p _
    · exact h.modLink p _
    · exact h.modLink p _
    · exact h
  | damagedFrame p bytes =>
    refine .of_running (fun _ => rfl) fun s h => ?_
    split
    · exact h
    · split
      · exact h
      all_goals exact h.modLink p _
  | linkHello p seen =>
    refine .of_running (fun _ => rfl) fun s h => ?_
    split
    · exact h
    · exact h.modLink p _
    · split
      · exact h.modLink p _
      · exact h
    · split
      · exact h.modLink p _
      · exact h.loseLink p _
  | linkAck p value hold =>
    refine .of_running (fun _ => rfl) fun s h => ?_
    split
    · exact h
    · exact h
    · exact ((h.modLink p _).modLink p _).modTransmit p _
    · exact (h.modLink p _).modTransmit p _
  | linkNak p value =>
    refine .of_running (fun _ => rfl) fun s h => ?_
    split
    · exact h
    · exact h
    · exact (h.modLink p _).modLink p _
    · exact h.modLink p _
  | unknownRequestKind p k f => exact .of_running (fun _ => rfl) fun _ h => h.unknownArrives p f
  | openSession p f =>
    refine .of_running (fun _ => rfl) fun _ h => h.requestArrives fun u hu hpasses => ?_
    have hclosed : (u.port p).session.state = .closed := by rw [session_of_refusalOf_none hpasses, if_pos rfl]
    exact ((hu.openSession hclosed).enqueue _).order
  | closeSession p f =>
    exact .of_running (fun _ => rfl) fun _ h => h.requestArrives fun u hu hpasses =>
      (State.Serving.acceptBarrier (hu.serving (by decide) hpasses).closing _ f).order
  | setOrder p f => exact .serving (fun _ => rfl) (by decide) fun _ h => h.setOrder _
  | read p f =>
    exact .of_running (fun _ => rfl) fun _ h => h.requestArrives fun u hu hpasses =>
      ((hu.serving (by decide) hpasses).acceptRead f).order
  | write p f =>
    exact .of_running (fun _ => rfl) fun _ h => h.requestArrives fun u hu hpasses =>
      ((hu.serving (by decide) hpasses).acceptWrite f).order
  | fence p f =>
    exact .of_running (fun _ => rfl) fun _ h => h.requestArrives fun u hu hpasses =>
      ((hu.serving (by decide) hpasses).acceptBarrier _ f).order
  | alloc p f => exact .serving (fun _ => rfl) (by decide) fun _ h => h.alloc _
  | release p f => exact .serving (fun _ => rfl) (by decide) fun _ h => h.release _
  | offer p f => exact .serving (fun _ => rfl) (by decide) fun _ h => h.offer _
  | accept p f => exact .serving (fun _ => rfl) (by decide) fun _ h => h.acceptOffer _
  | decline p f => exact .serving (fun _ => rfl) (by decide) fun _ h => h.declineOffer _
  | withdraw p f => exact .serving (fun _ => rfl) (by decide) fun _ h => h.withdrawOffer _
  | queryPort p f =>
    exact .serving (fun _ => rfl) (by decide) fun s h => (state_queryPort s p _).symm ▸ h
  | queryPage p f =>
    exact .serving (fun _ => rfl) (by decide) fun s h => (state_queryPage s p _).symm ▸ h
  | queryPool p f => exact .serving (fun _ => rfl) (by decide) fun _ h => h
  | queryFrame p f =>
    exact .serving (fun _ => rfl) (by decide) fun s h => (state_queryFrame s p _).symm ▸ h
  | claimAdmin p f => exact .serving (fun _ => rfl) (by decide) fun _ h => h.claimAdmin
  | handAdmin p f => exact .administrative (fun _ => rfl) (by decide) fun _ h => h.handAdmin _
  | defineRegion p f => exact .administrative (fun _ => rfl) (by decide) fun _ h => h.defineRegion _
  | undefineRegion p f => exact .administrative (fun _ => rfl) (by decide) fun _ h => h.undefineRegion _
  | onlineRegion p f => exact .administrative (fun _ => rfl) (by decide) fun _ h => h.onlineRegion _
  | retireRegion p f => exact .administrative (fun _ => rfl) (by decide) fun _ h => h.retireRequest _
  | setQuota p f => exact .administrative (fun _ => rfl) (by decide) fun _ h => h.setQuota _
  | setWeight p f => exact .administrative (fun _ => rfl) (by decide) fun _ h => h.setWeight _
  | setLimitOfferLife p f => exact .administrative (fun _ => rfl) (by decide) fun _ h => h.setOfferLife _
  | setLimitHoldLimit p f => exact .administrative (fun _ => rfl) (by decide) fun _ h => h.setHoldLimit _
  | setLimitErrorLimit p f => exact .administrative (fun _ => rfl) (by decide) fun _ h => h.setErrorLimit _
  | setLimitReplayTimeout p f =>
    exact .administrative (fun _ => rfl) (by decide) fun _ h => h.setReplayTimeout _
  | disablePort p f => exact .administrative (fun _ => rfl) (by decide) fun _ h => h.disablePort _
  | enablePort p f => exact .administrative (fun _ => rfl) (by decide) fun _ h => h.enablePort _
  | evictPort p f => exact .administrative (fun _ => rfl) (by decide) fun _ h => h.evictPort _
  | grant => exact .of_running (fun _ => rfl) fun _ h => h.takeGrant
  | readLinesCompletion reports =>
    refine .of_running (fun _ => rfl) fun s h => ?_
    split
    · split
      · exact h.readCompleted _ _ _
      all_goals exact h
    · exact h
  | writeLinesCompletion reports =>
    refine .of_running (fun _ => rfl) fun s h => ?_
    split
    · split
      · exact h.writeCompleted _ _ _
      all_goals exact h
    · exact h
  | zeroLinesCompletion =>
    refine .of_running (fun _ => rfl) fun s h => ?_
    split
    · split
      · exact h.zeroCompleted _
      all_goals exact h
    · exact h
  | transmitChoice p => exact .of_running (fun _ => rfl) fun _ h => h.transmitNew p
  | retransmit p =>
    refine .of_running (fun _ => rfl) fun s h => ?_
    split
    · split
      · exact (h.modLink p _).send p _
      · exact h
    · exact h
  | sendLinkHello p =>
    refine .of_running (fun _ => rfl) fun s h => ?_
    simp only
    split
    · exact (h.modLink p _).send p _
    · exact h
  | sendLinkNak p =>
    refine .of_running (fun _ => rfl) fun s h => ?_
    split
    · exact (h.modLink p _).send p _
    all_goals exact h
  | sendLinkAck p =>
    refine .of_running (fun _ => rfl) fun s h => ?_
    split
    · exact (h.modLink p _).send p _
    all_goals exact h
  | helloTimerExpiry p =>
    refine .of_running (fun _ => rfl) fun s h => ?_
    split
    · exact (h.reachTime _).modLink p _
    · exact h
  | replayTimerExpiry p =>
    refine .of_running (fun _ => rfl) fun s h => ?_
    split
    · exact (h.reachTime _).replayExpired p
    · exact h
  | holdTimerExpiry p =>
    refine .of_running (fun _ => rfl) fun s h => ?_
    split
    · exact (h.reachTime _).holdExpired p
    · exact h
  | offerExpiry n =>
    refine .of_running (fun _ => rfl) fun s h => ?_
    split
    · exact (((h.reachTime _).removeOffer n).raiseNotice _ _).raiseNotice _ _
    · exact h

/-- Settles O55: every command keeps each port, the frame records, the DRAM and the role in order. -/
theorem stepKeepsSessionsInOrder : Obligations.StepKeepsSessionsInOrder := by
  intro s t hstep hs
  exact (inOrder_iff t).1 (step_keeps keeps_inOrder (fun _ _ h => h.of_unit rfl rfl rfl rfl)
    (fun _ _ h => h.of_unit rfl rfl rfl rfl) hstep ((inOrder_iff s).2 hs))

end Sys2Proof.Machine
end

section
/-! SUPPORT. READ and WRITE at their acceptance (R47 to R49), and SET_QUOTA (R39). -/

namespace Sys2Proof.Machine

/-! ### SET_QUOTA (R39) -/

theorem portOf_none {n : Nat} (h : 4 ≤ n) : portOf n = none := by
  simp [portOf, Nat.not_lt.2 h]

theorem portOf_val {n : Nat} {p : Port} (h : n = p.val) : portOf n = some p := by
  simp [portOf, h]

theorem setQuota_badPort {s : State} {x : List Byte} (h : 4 ≤ field x 0 1) :
    s.setQuota x = .failed s .badValue := by
  simp only [State.setQuota, portOf_none h]

/-- The checks of SET_QUOTA on a port that its number names. -/
theorem setQuota_eq {s : State} {x : List Byte} {q : Port} (h : field x 0 1 = q.val) :
    s.setQuota x =
      if 4096 < field x 1 2 then .failed s .badValue
      else if field x 1 2 < s.mappedCount q then .failed s .quotaInUse
      else .ok (s.modAperture q fun a => { a with quota := field x 1 2 })
        (.quotaSet q (field x 1 2) (s.mappedCount q)) := by
  simp only [State.setQuota, portOf_val h]
  rfl

/-- Settles O35: SET_QUOTA by its checks. -/
theorem setQuotaSetsTheNamedPort : Obligations.SetQuotaSetsTheNamedPort := by
  intro s p f haccepts hrole quota
  obtain ⟨t, hexec, hans, hqueued⟩ := haccepts.administrative hrole (by decide)
    (act := fun v => v.setQuota f.payload) (setQuota_acted s p _)
  refine ⟨t, hexec, fun hbad => ?_, fun q hq hquota => ⟨fun hused => ?_, fun hfits => ?_⟩⟩
  · have hfailed : s.setQuota f.payload = .failed s .badValue := by
      by_cases hport : 4 ≤ field f.payload 0 1
      · exact setQuota_badPort hport
      · have hvalue : 4096 < field f.payload 1 2 := hbad.resolve_left hport
        rw [setQuota_eq (q := ⟨field f.payload 0 1, Nat.not_le.1 hport⟩) rfl, if_pos hvalue]
    rw [hfailed] at hans hqueued
    exact ⟨hans, hqueued⟩
  · rw [setQuota_eq hq, if_neg (Nat.not_lt.2 hquota), if_pos hused] at hans hqueued
    exact ⟨hans, hqueued⟩
  · rw [setQuota_eq hq, if_neg (Nat.not_lt.2 hquota), if_neg (Nat.not_lt.2 hfits)] at hans hqueued
    exact ⟨hans, hqueued⟩

/-! ### A new entry (R87 to R91) -/

/-- A PENDING entry is the youngest after its acceptance, and may be PRESENTED at once (R106). -/
theorem youngest_enqueue_waiting (s : State) (p : Port) (e : Entry) :
    ((s.enqueue p e).port p).requests.entries.getLast? = some e ∨
      ((s.enqueue p e).port p).requests.entries.getLast? = some { e with state := .presented } := by
  rw [requests_enqueue]
  have hlast : ((s.port p).requests.accepted e).entries.getLast? = some e := List.getLast?_concat
  rcases present_spec ((s.port p).requests.accepted e) (s.port p).session.state with
    hsame | ⟨older, x, younger, hentries, -, -, -, -, -, hpresent⟩
  · rw [hsame]
    exact .inl hlast
  · rw [hpresent]
    rw [hentries] at hlast
    rcases List.eq_nil_or_concat younger with rfl | ⟨front, y, rfl⟩
    · rw [List.getLast?_concat] at hlast
      cases hlast
      exact .inr List.getLast?_concat
    · rw [List.concat_eq_append, ← List.cons_append, ← List.append_assoc, List.getLast?_concat] at hlast
      cases hlast
      exact .inl (by
        rw [List.concat_eq_append, ← List.cons_append, ← List.append_assoc, List.getLast?_concat])

section
variable {s u : State} {p : Port} {k : RequestKind} {f : RequestFrame} {accept : State → State} {e : Entry}

/-- An accepted request of which an entry is left: its next state. -/
theorem State.Accepts.enqueued (h : s.Accepts p k f) (haccept : accept s = u.enqueue p e) :
    ∃ t, whenRunning s (s.requestArrives p k f accept) = .next t ∧ OnlyQueued p u t ∧
      (t.port p).requests = ((u.enqueue p e).port p).requests := by
  refine ⟨_, h.answers accept, ?_, ?_⟩
  · rw [haccept]
    exact enqueue_onlyQueued u p e _
  · rw [haccept, requests_modLink]

/-- An accepted request that fails a check is DONE at once with nothing changed but the queue. -/
theorem State.Accepts.faulted {result : ResultCode} (h : s.Accepts p k f)
    (haccept : accept s =
      s.enqueue p { s.newEntry p k f with state := .done, result := some result }) :
    ∃ t, whenRunning s (s.requestArrives p k f accept) = .next t ∧ s.Answers t p k f result none ∧
      OnlyQueued p s t := by
  obtain ⟨t, hexec, hqueued, hrequests⟩ := h.enqueued haccept
  refine ⟨t, hexec, ?_, hqueued⟩
  rw [State.Answers, hrequests, youngest_enqueue _ _ (by simp)]
  rfl

/-- The entry of an accepted data request (R89, R91): PENDING or PRESENTED, with its translation and its bytes. -/
def DataEntry (k : RequestKind) (tr : Translation) (data : Option (List Byte)) (e : Entry) : Prop :=
  e.kind = k ∧ e.result = none ∧ (e.state = .waiting ∨ e.state = .presented) ∧ e.writeData = data ∧
    e.readData = none ∧ e.translation = some tr

/-- An accepted data request that is translated leaves the state it acted on, and its entry. -/
theorem State.Accepts.translated {tr : Translation} {data : Option (List Byte)} (h : s.Accepts p k f)
    (haccept : accept s =
      u.enqueue p { s.newEntry p k f with translation := some tr, writeData := data }) :
    ∃ t, whenRunning s (s.requestArrives p k f accept) = .next t ∧ OnlyQueued p u t ∧
      ∃ e, (t.port p).requests.entries.getLast? = some e ∧ DataEntry k tr data e := by
  obtain ⟨t, hexec, hqueued, hrequests⟩ := h.enqueued haccept
  refine ⟨t, hexec, hqueued, ?_⟩
  rw [hrequests]
  rcases youngest_enqueue_waiting u p { s.newEntry p k f with translation := some tr, writeData := data } with
    hlast | hlast
  · exact ⟨_, hlast, rfl, rfl, .inl rfl, rfl, rfl, rfl⟩
  · exact ⟨_, hlast, rfl, rfl, .inr rfl, rfl, rfl, rfl⟩

end

/-! ### Translation (R47 to R49) -/

/-- The page slot that an address names. -/
def State.slotOfAddress (s : State) (p : Port) (address : Nat) : Option Mapping :=
  s.slotAt p (address / 65536)

/-- The bytes from an address on lie in one block of the page (R47). -/
def InBlock (address length : Nat) : Prop :=
  address % 65536 / 256 = (address % 65536 + length - 1) / 256

/-- The translation through a mapping (R47, R89). -/
def translationOf (m : Mapping) (address length : Nat) : Translation :=
  { frame := m.frame
    firstLine := address % 65536 / 32
    lineCount := (address % 65536 + length - 1) / 32 - address % 65536 / 32 + 1
    firstByte := address % 65536
    length := length }

section
variable {s : State} {p : Port} {isWrite : Bool} {address length : Nat}

theorem translate_unmapped (h : s.slotOfAddress p address = none) :
    s.translate p isWrite address length = .error .faultUnmapped := by
  have hslot : s.slotAt p (pageOf address) = none := h
  simp only [State.translate, hslot]

variable {m : Mapping} (h : s.slotOfAddress p address = some m)
include h

theorem translate_readOnly (hrights : m.rights = .ro) :
    s.translate p true address length = .error .faultRights := by
  have hslot : s.slotAt p (pageOf address) = some m := h
  simp [State.translate, hslot, hrights]

/-- A READ needs no rights, a WRITE RW (R48, R49). -/
theorem translate_crosses (hrights : isWrite = true → m.rights = .rw) (hblock : ¬InBlock address length) :
    s.translate p isWrite address length = .error .bounds := by
  have hslot : s.slotAt p (pageOf address) = some m := h
  have hwithin : withinBlock (offsetOf address) length = false := by
    simpa [InBlock, withinBlock, offsetOf, Config.blockBytes, Config.frameBytes] using hblock
  cases isWrite with
  | false => simp [State.translate, hslot, hwithin]
  | true => simp [State.translate, hslot, hwithin, hrights rfl]

theorem translate_inBlock (hrights : isWrite = true → m.rights = .rw) (hblock : InBlock address length) :
    s.translate p isWrite address length = .ok (translationOf m address length) := by
  have hslot : s.slotAt p (pageOf address) = some m := h
  have hwithin : withinBlock (offsetOf address) length = true := by
    simpa [InBlock, withinBlock, offsetOf, Config.blockBytes, Config.frameBytes] using hblock
  have hok : (.ok
      { frame := m.frame
        firstLine := firstLineOf (offsetOf address)
        lineCount := lineCountOf (offsetOf address) length
        firstByte := offsetOf address
        length := length } : Except ResultCode Translation) = .ok (translationOf m address length) := rfl
  cases isWrite with
  | false => simp [State.translate, hslot, hwithin, hok]
  | true => simp [State.translate, hslot, hwithin, hrights rfl, hok]

end

/-! ### READ and WRITE (R48, R49) -/

section
variable {s : State} {p : Port} {f : RequestFrame} {result : ResultCode} {tr : Translation}

/-- A READ whose translation fails (R48). -/
theorem State.Accepts.read_faulted (h : s.Accepts p .read f)
    (htr : s.translate p false (field f.payload 0 4) (field f.payload 4 2) = .error result) :
    ∃ t, exec (.read p f) s = .next t ∧ s.Answers t p .read f result none ∧ OnlyQueued p s t := by
  refine h.faulted (accept := fun t => t.acceptRead p f) ?_
  simp only [State.acceptRead, dataAddress, dataLength, htr]

/-- A READ that is translated pins its frame (R18, R48, R91). -/
theorem State.Accepts.read_translated (h : s.Accepts p .read f)
    (htr : s.translate p false (field f.payload 0 4) (field f.payload 4 2) = .ok tr) :
    ∃ t, exec (.read p f) s = .next t ∧ OnlyQueued p (s.pin tr.frame) t ∧
      ∃ e, (t.port p).requests.entries.getLast? = some e ∧ DataEntry .read tr none e := by
  refine h.translated (accept := fun t => t.acceptRead p f) ?_
  simp only [State.acceptRead, dataAddress, dataLength, htr]
  rfl

/-- A WRITE whose translation fails (R49). -/
theorem State.Accepts.write_faulted (h : s.Accepts p .write f)
    (htr : s.translate p true (field f.payload 0 4) (field f.payload 4 2) = .error result) :
    ∃ t, exec (.write p f) s = .next t ∧ s.Answers t p .write f result none ∧ OnlyQueued p s t := by
  refine h.faulted (accept := fun t => t.acceptWrite p f) ?_
  simp only [State.acceptWrite, dataAddress, dataLength, htr]

/-- A WRITE that is translated pins its frame and reserves its lines (R18, R49, R94). -/
theorem State.Accepts.write_translated (h : s.Accepts p .write f)
    (htr : s.translate p true (field f.payload 0 4) (field f.payload 4 2) = .ok tr) :
    ∃ t, exec (.write p f) s = .next t ∧
      OnlyQueued p ((s.pin tr.frame).modRequests p fun r =>
        { r with reservedLines := r.reservedLines + tr.lineCount }) t ∧
      ∃ e, (t.port p).requests.entries.getLast? = some e ∧
        DataEntry .write tr (some (f.payload.drop 6)) e := by
  refine h.translated (accept := fun t => t.acceptWrite p f) ?_
  simp only [State.acceptWrite, dataAddress, dataLength, htr]
  rfl

end

/-- Settles O21: an accepted READ by the first check of its translation that fails. -/
theorem readIsTranslatedOrFaults : Obligations.ReadIsTranslatedOrFaults := by
  intro s p f haccepts page first length last
  cases hslot : s.slotAt p page with
  | none =>
    obtain ⟨t, hexec, hfault⟩ := haccepts.read_faulted (translate_unmapped hslot)
    exact ⟨t, hexec, fun _ => hfault, nofun⟩
  | some m =>
    by_cases hblock : first / 256 = last / 256
    · obtain ⟨t, hexec, hqueued, e, hlast, hentry⟩ :=
        haccepts.read_translated (translate_inBlock hslot nofun hblock)
      refine ⟨t, hexec, nofun, fun m' hm => ?_⟩
      cases hm
      exact ⟨fun h => absurd hblock h, fun _ => ⟨hqueued, e, hlast, hentry⟩⟩
    · obtain ⟨t, hexec, hfault⟩ := haccepts.read_faulted (translate_crosses hslot nofun hblock)
      exact ⟨t, hexec, nofun, fun _ _ => ⟨fun _ => hfault, fun h => absurd h hblock⟩⟩

/-- Settles O22: an accepted WRITE by the first check of its translation that fails. -/
theorem writeIsTranslatedOrFaults : Obligations.WriteIsTranslatedOrFaults := by
  intro s p f haccepts page first length last lines
  cases hslot : s.slotAt p page with
  | none =>
    obtain ⟨t, hexec, hfault⟩ := haccepts.write_faulted (translate_unmapped hslot)
    exact ⟨t, hexec, fun _ => hfault, nofun⟩
  | some m =>
    cases hrights : m.rights with
    | ro =>
      obtain ⟨t, hexec, hfault⟩ := haccepts.write_faulted (translate_readOnly hslot hrights)
      refine ⟨t, hexec, nofun, fun m' hm => ?_⟩
      cases hm
      rw [hrights]
      exact ⟨fun _ => hfault, nofun, nofun⟩
    | rw =>
      by_cases hblock : first / 256 = last / 256
      · obtain ⟨t, hexec, hqueued, e, hlast, hentry⟩ :=
          haccepts.write_translated (translate_inBlock hslot (fun _ => hrights) hblock)
        refine ⟨t, hexec, nofun, fun m' hm => ?_⟩
        cases hm
        rw [hrights]
        exact ⟨nofun, fun _ h => absurd hblock h, fun _ _ => ⟨hqueued, e, hlast, hentry⟩⟩
      · obtain ⟨t, hexec, hfault⟩ :=
          haccepts.write_faulted (translate_crosses hslot (fun _ => hrights) hblock)
        refine ⟨t, hexec, nofun, fun m' hm => ?_⟩
        cases hm
        rw [hrights]
        exact ⟨nofun, fun _ _ => hfault, fun _ h => absurd h hblock⟩

end Sys2Proof.Machine
end

section
/-! SUPPORT. ALLOC and RELEASE (R40 to R44, R67). -/

namespace Sys2Proof.Machine

/-- An accepted request that acts at acceptance leaves what its action leaves, and its entry with the answer of the action
(R93). -/
theorem State.Accepts.acting {s : State} {p : Port} {k : RequestKind} {f : RequestFrame} (h : s.Accepts p k f)
    (hk : k ≠ .openSession) {act : State → Answer} (hact : Acted p k s (act s).state) :
    ∃ t, whenRunning s (s.requestArrives p k f fun t => t.acceptDone p k f act) = .next t ∧
      s.Answers t p k f (act s).result (act s).payload ∧ OnlyQueued p (act s).state t :=
  h.acceptDone rfl (hact.counters hk _)

theorem mem_pagesFrom {page count g : Nat} : g ∈ pagesFrom page count ↔ page ≤ g ∧ g < page + count := by
  simp only [pagesFrom, List.mem_map, List.mem_range]
  constructor
  · rintro ⟨i, hi, rfl⟩; omega
  · intro h; exact ⟨g - page, by omega, by omega⟩

theorem nodup_pagesFrom (page count : Nat) : (pagesFrom page count).Nodup :=
  List.nodup_range.map fun _ _ h => Nat.add_left_cancel h

theorem length_pagesFrom (page count : Nat) : (pagesFrom page count).length = count := by
  simp [pagesFrom]

theorem any_pagesFrom_iff {page count : Nat} {P : Nat → Bool} :
    (pagesFrom page count).any P = true ↔ ∃ g, page ≤ g ∧ g < page + count ∧ P g = true := by
  simp only [List.any_eq_true, mem_pagesFrom, and_assoc]

/-! ### The take claim (R15) -/

/-- The frame's record as HELD by the port alone. -/
def FrameRecord.taken (r : FrameRecord) (p : Port) : FrameRecord :=
  { r with state := .held, holders := 1, pins := 0, originator := some p }

/-- The frame is taken by the port. -/
def PoolManager.takeFrame (p : Port) (q : PoolManager) (f : Nat) : PoolManager :=
  q.setFrame f ((q.frame f).taken p)

theorem foldl_takeFrame (p : Port) (l : List Nat) (t : State) :
    l.foldl (fun t f => t.setFrame f ((t.frame f).taken p)) t =
      t.modPool fun q => { q with frames := (l.foldl (PoolManager.takeFrame p) t.pool).frames } := by
  induction l generalizing t with
  | nil => rfl
  | cons f l ih => rw [List.foldl_cons, ih]; rfl

/-- Of the pool a take changes the free list and the frame records alone. -/
theorem take_eq (s : State) (p : Port) (count : Nat) :
    s.take p count = s.modPool fun q =>
      { q with
        freeList := s.pool.freeList.drop count
        frames := ((s.pool.freeList.take count).foldl (PoolManager.takeFrame p)
          { s.pool with freeList := s.pool.freeList.drop count }).frames } :=
  (foldl_takeFrame p (s.pool.freeList.take count)
    (s.modPool fun q => { q with freeList := q.freeList.drop count })).trans rfl

theorem frame_takeFrames {q : PoolManager} (h : Sparse.rising q.frames = true) (p : Port) (l : List Nat)
    (x : Nat) :
    (l.foldl (PoolManager.takeFrame p) q).frame x = if x ∈ l then (q.frame x).taken p else q.frame x := by
  induction l generalizing q with
  | nil => simp
  | cons f l ih =>
    have hrising : Sparse.rising (PoolManager.takeFrame p q f).frames = true :=
      PoolManager.rising_setFrame h f _
    have hfirst : (PoolManager.takeFrame p q f).frame x = if x = f then (q.frame x).taken p else q.frame x := by
      rw [PoolManager.takeFrame, PoolManager.frame_setFrame h]
      by_cases hx : x = f <;> simp [hx]
    rw [List.foldl_cons, ih hrising, hfirst]
    by_cases hx : x = f <;> by_cases hl : x ∈ l <;> simp [hx, hl, FrameRecord.taken]

/-- The frames at the head of the free list are HELD by the port alone, and every other record stays (R15). -/
theorem frame_take {s : State} (h : Sparse.rising s.pool.frames = true) (p : Port) (count x : Nat) :
    (s.take p count).frame x =
      if x ∈ s.pool.freeList.take count then (s.frame x).taken p else s.frame x := by
  rw [take_eq]
  exact frame_takeFrames (q := { s.pool with freeList := s.pool.freeList.drop count }) h p _ x

/-! ### Pages mapped (R41) -/

/-- Frames listed for consecutive pages, RW and ALLOCATED. -/
def mapSlots (slots : Sparse Mapping) (page : Nat) : List Nat → Sparse Mapping
  | [] => slots
  | f :: fs =>
    mapSlots (Sparse.set slots page (some { frame := f, rights := .rw, origin := .allocated })) (page + 1) fs

/-- Mapping frames changes the page slots of the port alone. -/
theorem mapFrames_eq (s : State) (p : Port) (page : Nat) (fs : List Nat) :
    s.mapFrames p page fs = s.modAperture p fun a => { a with slots := mapSlots a.slots page fs } := by
  induction fs generalizing s page with
  | nil => exact (modAperture_id s rfl).symm
  | cons f fs ih =>
    rw [State.mapFrames, ih, State.setSlot, State.modAperture, State.modAperture, modPort_modPort]
    rfl

theorem get_mapSlots (slots : Sparse Mapping) (page : Nat) (fs : List Nat) (g : Nat) :
    Sparse.get (mapSlots slots page fs) g =
      if page ≤ g ∧ g < page + fs.length then
        fs[g - page]?.map fun x => { frame := x, rights := .rw, origin := .allocated }
      else Sparse.get slots g := by
  induction fs generalizing slots page with
  | nil => rw [if_neg (by simp only [List.length_nil]; omega)]; rfl
  | cons f fs ih =>
    rw [mapSlots, ih, List.length_cons]
    by_cases hfirst : g = page
    · subst hfirst
      rw [if_neg (by omega), if_pos (by omega), Sparse.get_set_some, Nat.sub_self]
      rfl
    · by_cases hrest : page + 1 ≤ g ∧ g < page + 1 + fs.length
      · have hindex : g - page = g - (page + 1) + 1 := by omega
        rw [if_pos hrest, if_pos (by omega), hindex, List.getElem?_cons_succ]
      · rw [if_neg hrest, if_neg (by omega), Sparse.get_set_other _ hfirst]

/-- Pages that were EMPTY are counted once each (R37). -/
theorem length_mapSlots {slots : Sparse Mapping} {page : Nat} {fs : List Nat}
    (h : ∀ g, page ≤ g → g < page + fs.length → Sparse.get slots g = none) :
    (mapSlots slots page fs).length = slots.length + fs.length := by
  induction fs generalizing slots page with
  | nil => rfl
  | cons f fs ih =>
    rw [List.length_cons] at h
    rw [mapSlots, ih, Sparse.length_set_some (h page le_rfl (by omega)), List.length_cons]
    · omega
    · intro g hlow hhigh
      rw [Sparse.get_set_other _ (by omega)]
      exact h g (by omega) (by omega)

/-! ### ALLOC (R40, R41) -/

section
variable {s : State} {p : Port} {x : List Byte}

/-- A page that an ALLOC names is MAPPED. -/
def State.usesPage (s : State) (p : Port) (page count : Nat) : Prop :=
  ∃ g, page ≤ g ∧ g < page + count ∧ s.slotAt p g ≠ none

/-- The checks of ALLOC in their order (R40). -/
theorem alloc_bounds (h : 4096 < field x 0 2 + field x 2 1) : s.alloc p x = .failed s .bounds := by
  rw [State.alloc]
  exact if_pos h

theorem alloc_inBounds (h : field x 0 2 + field x 2 1 ≤ 4096) :
    s.alloc p x =
      if (pagesFrom (field x 0 2) (field x 2 1)).any fun g => (s.slotAt p g).isSome then .failed s .pageInUse
      else if (s.port p).aperture.quota < s.mappedCount p + field x 2 1 then .failed s .quota
      else if s.pool.freeList.length < field x 2 1 then .failed s .noFrames
      else .ok ((s.take p (field x 2 1)).mapFrames p (field x 0 2) (s.pool.freeList.take (field x 2 1)))
        (.allocated (field x 0 2) (field x 2 1) (s.pool.freeList.take (field x 2 1))) := by
  rw [State.alloc]
  exact if_neg (Nat.not_lt.2 h)

theorem any_isSome_iff (page count : Nat) :
    ((pagesFrom page count).any fun g => (s.slotAt p g).isSome) = true ↔ s.usesPage p page count := by
  simp only [any_pagesFrom_iff, Option.isSome_iff_ne_none]
  rfl

end

/-- What an ALLOC that passes its checks does: the take claim and the mappings (R41). -/
def State.allocated (s : State) (p : Port) (page count : Nat) : State :=
  (s.take p count).mapFrames p page (s.pool.freeList.take count)

theorem pool_allocated (s : State) (p : Port) (page count : Nat) :
    (s.allocated p page count).pool = (s.take p count).pool := by
  rw [State.allocated, mapFrames_eq, pool_modAperture]

theorem aperture_allocated (s : State) (p : Port) (page count : Nat) :
    ((s.allocated p page count).port p).aperture =
      { (s.port p).aperture with
        slots := mapSlots (s.port p).aperture.slots page (s.pool.freeList.take count) } := by
  rw [State.allocated, mapFrames_eq, aperture_modAperture_same, (take_quiet s p count).aperture]

/-- An ALLOC touches the pool and the page slots of its port alone. -/
theorem allocated_onlyAperture (s : State) (p : Port) (page count : Nat) :
    (∀ q, q ≠ p → (s.allocated p page count).port q = s.port q) ∧
    ((s.allocated p page count).port p).session = (s.port p).session ∧
    ((s.allocated p page count).port p).transmit = (s.port p).transmit ∧
    (s.allocated p page count).share = s.share ∧ (s.allocated p page count).role = s.role ∧
    SameRest s (s.allocated p page count) := by
  rw [State.allocated, mapFrames_eq, take_eq]
  refine ⟨fun q hq => ?_, ?_, ?_, rfl, rfl, ⟨rfl, rfl, rfl, rfl, rfl, rfl, rfl, rfl, rfl⟩⟩
  · rw [port_modAperture_ne _ hq, port_modPool]
  · rw [session_modAperture, port_modPool]
  · rw [transmit_modAperture, port_modPool]

/-- Settles O23: ALLOC by its checks, and the pages and records it leaves, seen behind the acceptance. -/
theorem allocMapsTheHeadOfTheFreeList : Obligations.AllocMapsTheHeadOfTheFreeList := by
  intro s p f haccepts hcanonical _ page count used overQuota short frames
  obtain ⟨t, hexec, hans, hqueued⟩ := haccepts.acting (by decide) (act := fun u => u.alloc p f.payload)
    (alloc_acted s p _)
  have hused : ((pagesFrom page count).any fun g => (s.slotAt p g).isSome) = true ↔ used :=
    any_isSome_iff page count
  refine ⟨t, hexec, fun hlarge => ?_, fun hin huse => ?_, fun hin huse hquota => ?_,
    fun hin huse hquota hshort => ?_, fun hin huse hquota hshort => ?_⟩
  · rw [alloc_bounds hlarge] at hans hqueued
    exact ⟨hans, hqueued⟩
  · rw [alloc_inBounds hin, if_pos (hused.2 huse)] at hans hqueued
    exact ⟨hans, hqueued⟩
  · rw [alloc_inBounds hin, if_neg (mt hused.1 huse), if_pos hquota] at hans hqueued
    exact ⟨hans, hqueued⟩
  · rw [alloc_inBounds hin, if_neg (mt hused.1 huse), if_neg hquota, if_pos hshort] at hans hqueued
    exact ⟨hans, hqueued⟩
  · rw [alloc_inBounds hin, if_neg (mt hused.1 huse), if_neg hquota, if_neg hshort] at hans hqueued
    have hlength : frames.length = count := by
      rw [List.length_take]
      exact min_eq_left (Nat.not_lt.1 hshort)
    have hempty : ∀ g, page ≤ g → g < page + frames.length → s.slotAt p g = none := fun g hlow hhigh => by
      rw [hlength] at hhigh
      by_contra hmapped
      exact huse ⟨g, hlow, hhigh, hmapped⟩
    have hpool : t.pool = (s.take p count).pool := hqueued.pool.trans (pool_allocated s p page count)
    have haperture := hqueued.aperture.trans (aperture_allocated s p page count)
    obtain ⟨hothers, hsession, htransmit, hshare, hrole, hrest⟩ := allocated_onlyAperture s p page count
    have hslot : ∀ g, t.slotAt p g = Sparse.get (mapSlots (s.port p).aperture.slots page frames) g := fun g => by
      rw [State.slotAt, haperture]
    refine ⟨hans, by rw [hpool, take_eq]; rfl, fun i x hx => ?_, fun g hg => ?_, ?_, by rw [haperture],
      fun x => (frame_of_pool hpool x).trans (frame_take hcanonical.frames p count x),
      fun q hq => (hqueued.others q hq).trans (hothers q hq), hqueued.session.trans hsession,
      hqueued.transmit.trans htransmit, by rw [hpool, take_eq]; rfl, by rw [hpool, take_eq]; rfl,
      by rw [hpool, take_eq]; rfl, by rw [hpool, take_eq]; rfl, hqueued.share.trans hshare,
      hqueued.role.trans hrole, hqueued.scheduler.trans hrest.scheduler,
      hqueued.holdLimit.trans hrest.holdLimit, hqueued.replayTimeout.trans hrest.replayTimeout⟩
    · obtain ⟨hi, -⟩ := List.getElem?_eq_some_iff.1 hx
      rw [hslot, get_mapSlots, if_pos (by omega), Nat.add_sub_cancel_left, hx]
      rfl
    · rw [hslot, get_mapSlots, if_neg (by omega)]
      rfl
    · rw [State.mappedCount, haperture, length_mapSlots hempty, hlength]
      rfl

/-! ### RELEASE (R43, R44, R67) -/

/-- The offers that are left without those of the port of one of these pages. -/
def withoutOffers (offers : List Offer) (p : Port) (gs : List Nat) : List Offer :=
  offers.filter fun o => !(o.offering == p && gs.contains o.page)

/-- The release of a MAPPED page takes its offers out of the table (R67). -/
theorem offers_releasePage {s : State} {p : Port} {g : Nat} (h : s.slotAt p g ≠ none) :
    (s.releasePage p g).share.offers = withoutOffers s.share.offers p [g] := by
  unfold State.releasePage
  split
  · rename_i hempty
    exact absurd hempty h
  · rw [(unhold_quiet _ _).share, share_setSlot, State.withdrawForPage, share_raiseOfferNotices, share_modShare]
    rw [ShareUnit.removeOffers, withoutOffers]
    refine List.filter_congr fun o _ => ?_
    by_cases hpage : o.page = g <;> simp [hpage]

theorem slotAt_releasePage_ne (s : State) (p : Port) {g g' : Nat} (h : g' ≠ g) :
    (s.releasePage p g).slotAt p g' = s.slotAt p g' := by
  rw [State.slotAt, aperture_releasePage, if_pos rfl]
  exact Sparse.get_set_other _ h none

/-- The release of MAPPED pages takes their offers out of the table, and no other. -/
theorem offers_releasePages {s : State} {p : Port} {gs : List Nat} (hnodup : gs.Nodup)
    (h : ∀ g ∈ gs, s.slotAt p g ≠ none) :
    (s.releasePages p gs).share.offers = withoutOffers s.share.offers p gs := by
  induction gs generalizing s with
  | nil => simp [State.releasePages, withoutOffers]
  | cons g gs ih =>
    obtain ⟨hg, hnodup'⟩ := List.nodup_cons.1 hnodup
    have hrest : ∀ g' ∈ gs, (s.releasePage p g).slotAt p g' ≠ none := fun g' hg' => by
      have hne : g' ≠ g := fun e => hg (e ▸ hg')
      rw [slotAt_releasePage_ne s p hne]
      exact h g' (List.mem_cons_of_mem g hg')
    rw [State.releasePages, List.foldl_cons]
    refine (ih hnodup' hrest).trans ?_
    rw [offers_releasePage (h g List.mem_cons_self), withoutOffers, withoutOffers, withoutOffers,
      List.filter_filter]
    refine List.filter_congr fun o _ => ?_
    cases hoffering : o.offering == p <;> simp [Bool.and_comm]

/-- The numbers taken out read as absent, the others as before. -/
theorem Sparse.get_foldl_set_none {α : Type} {l : Sparse α} (h : Sparse.rising l = true) (gs : List Nat)
    (k : Nat) :
    Sparse.get (gs.foldl (fun l g => Sparse.set l g none) l) k = if k ∈ gs then none else Sparse.get l k := by
  induction gs generalizing l with
  | nil => rfl
  | cons g gs ih =>
    rw [List.foldl_cons, ih (Sparse.rising_set g none h), Sparse.get_set h]
    by_cases hk : k = g <;> by_cases hrest : k ∈ gs <;> simp [hk, hrest]

/-- A listed number is taken out once. -/
theorem Sparse.length_set_none {α : Type} {l : Sparse α} (h : Sparse.rising l = true) {k : Nat}
    (hk : Sparse.get l k ≠ none) : (Sparse.set l k none).length + 1 = l.length := by
  induction l with
  | nil => exact absurd rfl hk
  | cons e l ih =>
    obtain ⟨j, x⟩ := e
    obtain ⟨habove, hrising⟩ := Sparse.rising_cons.1 h
    rw [Sparse.set]
    split
    · rename_i hlt
      refine absurd (Sparse.get_above (l := (j, x) :: l) (k := k) (fun d hd => ?_) le_rfl) hk
      rcases List.mem_cons.1 hd with rfl | hd
      · exact hlt
      · exact lt_trans hlt (habove d hd)
    · split
      · rfl
      · rename_i hne
        rw [Sparse.get, if_neg fun hj => hne hj.symm] at hk
        rw [List.length_cons, List.length_cons, ih hrising hk]

theorem Sparse.length_foldl_set_none {α : Type} {l : Sparse α} (h : Sparse.rising l = true) {gs : List Nat}
    (hnodup : gs.Nodup) (hlisted : ∀ g ∈ gs, Sparse.get l g ≠ none) :
    (gs.foldl (fun l g => Sparse.set l g none) l).length + gs.length = l.length := by
  induction gs generalizing l with
  | nil => rfl
  | cons g gs ih =>
    obtain ⟨hg, hnodup'⟩ := List.nodup_cons.1 hnodup
    have hrest : ∀ g' ∈ gs, Sparse.get (Sparse.set l g none) g' ≠ none := fun g' hg' => by
      have hne : g' ≠ g := fun e => hg (e ▸ hg')
      rw [Sparse.get_set_other l hne none]
      exact hlisted g' (List.mem_cons_of_mem g hg')
    rw [List.foldl_cons, List.length_cons, ← Sparse.length_set_none h (hlisted g List.mem_cons_self),
      ← ih (Sparse.rising_set g none h) hnodup' hrest, Nat.add_assoc]

/-- The checks of RELEASE in their order (R43). -/
theorem release_bounds {s : State} {p : Port} {x : List Byte} (h : 4096 < field x 0 2 + field x 2 1) :
    s.release p x = .failed s .bounds := by
  rw [State.release]
  exact if_pos h

theorem release_inBounds {s : State} {p : Port} {x : List Byte} (h : field x 0 2 + field x 2 1 ≤ 4096) :
    s.release p x =
      if (pagesFrom (field x 0 2) (field x 2 1)).any fun g => (s.slotAt p g).isNone then
        .failed s .notMapped
      else .ok (s.releasePages p (pagesFrom (field x 0 2) (field x 2 1)))
        (.released (field x 0 2) (field x 2 1)) := by
  rw [State.release]
  exact if_neg (Nat.not_lt.2 h)

theorem any_isNone_iff {s : State} {p : Port} {page count : Nat} :
    ((pagesFrom page count).any fun g => (s.slotAt p g).isNone) = true ↔
      ∃ g, page ≤ g ∧ g < page + count ∧ s.slotAt p g = none := by
  simp only [any_pagesFrom_iff, Option.isNone_iff_eq_none]

/-- Settles O24: the release of one page by its slot, and RELEASE by its checks and the pages it takes out. -/
theorem releaseEmptiesThePages : Obligations.ReleaseEmptiesThePages := by
  constructor
  · intro s p g ofPage untabled
    refine ⟨fun hempty => ?_, fun m hmapped => ?_⟩
    · simp only [State.releasePage, hempty]
    · simp only [State.releasePage, hmapped]
      rfl
  · intro s p f haccepts hcanonical page count
    obtain ⟨t, hexec, hans, hqueued⟩ := haccepts.acting (by decide) (act := fun u => u.release p f.payload)
      (release_acted s p _)
    have hslots := hcanonical.apertures p
    refine ⟨t, hexec, fun hlarge => ?_, fun hin hunmapped => ?_, fun hin hmapped => ?_⟩
    · rw [release_bounds hlarge] at hans hqueued
      exact ⟨hans, hqueued⟩
    · rw [release_inBounds hin, if_pos (any_isNone_iff.2 hunmapped)] at hans hqueued
      exact ⟨hans, hqueued⟩
    · have hall : ¬∃ g, page ≤ g ∧ g < page + count ∧ s.slotAt p g = none :=
        fun ⟨g, hlow, hhigh, hnone⟩ => hmapped g hlow hhigh hnone
      rw [release_inBounds hin, if_neg (mt any_isNone_iff.1 hall)] at hans hqueued
      have hlisted : ∀ g ∈ pagesFrom page count, s.slotAt p g ≠ none := fun g hg =>
        hmapped g (mem_pagesFrom.1 hg).1 (mem_pagesFrom.1 hg).2
      have haperture : ∀ q, (t.port q).aperture =
          ((s.releasePages p (pagesFrom page count)).port q).aperture := fun q => by
        by_cases hq : q = p
        · rw [hq]; exact hqueued.aperture
        · rw [hqueued.others q hq]; rfl
      have hslot : ∀ g, t.slotAt p g = if g ∈ pagesFrom page count then none else s.slotAt p g := fun g => by
        rw [State.slotAt, haperture, aperture_releasePages, if_pos rfl]
        exact Sparse.get_foldl_set_none hslots _ g
      refine ⟨hans, hqueued, fun g hlow hhigh => ?_, fun g hg => ?_, fun q hq => ?_, ?_, ?_⟩
      · rw [hslot, if_pos (mem_pagesFrom.2 ⟨hlow, hhigh⟩)]
      · rw [hslot, if_neg fun hmem => by have := mem_pagesFrom.1 hmem; omega]
      · rw [haperture, aperture_releasePages, if_neg hq]
      · have hlength := Sparse.length_foldl_set_none hslots (nodup_pagesFrom page count) hlisted
        rw [length_pagesFrom] at hlength
        rw [State.mappedCount, haperture, aperture_releasePages, if_pos rfl]
        exact hlength
      · rw [hqueued.share]
        refine (offers_releasePages (nodup_pagesFrom page count) hlisted).trans
          (List.filter_congr fun o _ => ?_)
        have hpage : (pagesFrom page count).contains o.page =
            (decide (page ≤ o.page) && decide (o.page < page + count)) := by
          rw [Bool.eq_iff_iff]
          simp [mem_pagesFrom]
        rw [hpage, Bool.and_assoc]

end Sys2Proof.Machine
end

section
/-! SUPPORT. Offer numbers (R58), and OFFER, ACCEPT, DECLINE and WITHDRAW (R46, R57 to R65). -/

namespace Sys2Proof.Machine

/-! ### Offer numbers (R58) -/

/-- The offer numbers in their order: 1 to 255, and 1 again. -/
def countedNumber (k : Nat) : Byte := BitVec.ofNat 8 (k % 255 + 1)

theorem toNat_countedNumber (k : Nat) : (countedNumber k).toNat = k % 255 + 1 := by
  rw [countedNumber, BitVec.toNat_ofNat]
  omega

theorem countedNumber_ne_zero (k : Nat) : countedNumber k ≠ 0 := fun h => by
  have htoNat := congrArg BitVec.toNat h
  rw [toNat_countedNumber] at htoNat
  exact absurd htoNat (Nat.succ_ne_zero _)

theorem countedNumber_of_ne_zero {n : Byte} (h : n ≠ 0) : countedNumber (n.toNat - 1) = n := by
  have hpos : n.toNat ≠ 0 := fun h0 => h (BitVec.eq_of_toNat_eq h0)
  have hlt := n.isLt
  refine BitVec.eq_of_toNat_eq ?_
  rw [toNat_countedNumber]
  omega

theorem nextOfferNumber_ne_zero (n : Byte) : nextOfferNumber n ≠ 0 := by
  unfold nextOfferNumber
  split
  · decide
  · rename_i h
    bv_omega

theorem nextOfferNumber_countedNumber (k : Nat) :
    nextOfferNumber (countedNumber k) = countedNumber (k + 1) := by
  have hk := toNat_countedNumber k
  have hsucc := toNat_countedNumber (k + 1)
  refine BitVec.eq_of_toNat_eq ?_
  unfold nextOfferNumber
  split
  · rename_i hlast
    rw [hlast] at hk
    change 255 = k % 255 + 1 at hk
    change 1 = (countedNumber (k + 1)).toNat
    omega
  · rename_i hlast
    have hne : (countedNumber k).toNat ≠ 255 := fun h => hlast (BitVec.eq_of_toNat_eq h)
    rw [BitVec.toNat_add]
    change ((countedNumber k).toNat + 1) % 256 = (countedNumber (k + 1)).toNat
    omega

theorem iterate_countedNumber (k d : Nat) :
    nextOfferNumber^[d] (countedNumber k) = countedNumber (k + d) := by
  induction d with
  | zero => rfl
  | succ d ih => rw [Function.iterate_succ_apply', ih, nextOfferNumber_countedNumber, Nat.add_assoc]

theorem iterate_nextOfferNumber {n : Byte} (h : n ≠ 0) (d : Nat) :
    nextOfferNumber^[d] n = countedNumber (n.toNat - 1 + d) := by
  rw [← iterate_countedNumber, countedNumber_of_ne_zero h]

/-- The count from 0, which no counter holds, goes on with 1. -/
theorem iterate_nextOfferNumber_zero (d : Nat) : nextOfferNumber^[d + 1] 0 = countedNumber d := by
  have hfirst : nextOfferNumber 0 = countedNumber 0 := rfl
  rw [Function.iterate_succ_apply, hfirst, iterate_countedNumber, Nat.zero_add]

/-- 255 numbers in a row are different. -/
theorem iterate_nextOfferNumber_inj (n : Byte) {i j : Nat} (hi : i < 255) (hj : j < 255)
    (h : nextOfferNumber^[i] n = nextOfferNumber^[j] n) : i = j := by
  by_cases hn : n = 0
  · subst hn
    cases i with
    | zero =>
      cases j with
      | zero => rfl
      | succ j =>
        rw [iterate_nextOfferNumber_zero] at h
        exact absurd h.symm (countedNumber_ne_zero j)
    | succ i =>
      cases j with
      | zero =>
        rw [iterate_nextOfferNumber_zero] at h
        exact absurd h (countedNumber_ne_zero i)
      | succ j =>
        rw [iterate_nextOfferNumber_zero, iterate_nextOfferNumber_zero] at h
        have htoNat := congrArg BitVec.toNat h
        rw [toNat_countedNumber, toNat_countedNumber] at htoNat
        omega
  · rw [iterate_nextOfferNumber hn, iterate_nextOfferNumber hn] at h
    have htoNat := congrArg BitVec.toNat h
    rw [toNat_countedNumber, toNat_countedNumber] at htoNat
    omega

/-- The number is the first of the count that no record carries, if the looks suffice. -/
theorem firstFreeNumber_spec (offers : List Offer) (n : Byte) (steps : Nat) :
    ∃ d ≤ steps, firstFreeNumber offers n steps = nextOfferNumber^[d] n ∧
      (∀ i < d, nextOfferNumber^[i] n ∈ offers.map Offer.number) ∧
      (d < steps → nextOfferNumber^[d] n ∉ offers.map Offer.number) := by
  induction steps generalizing n with
  | zero => exact ⟨0, le_rfl, rfl, nofun, nofun⟩
  | succ steps ih =>
    have hcarried : (offers.any fun o => o.number == n) = true ↔ n ∈ offers.map Offer.number := by
      simp [List.mem_map]
    unfold firstFreeNumber
    split
    · rename_i hany
      obtain ⟨d, hd, heq, hbefore, hfree⟩ := ih (nextOfferNumber n)
      refine ⟨d + 1, Nat.succ_le_succ hd, heq, fun i hi => ?_, fun hlt => hfree (Nat.lt_of_succ_lt_succ hlt)⟩
      cases i with
      | zero => exact hcarried.1 hany
      | succ i => exact hbefore i (Nat.lt_of_succ_lt_succ hi)
    · rename_i hany
      exact ⟨0, Nat.zero_le _, rfl, nofun, fun _ hmem => hany (hcarried.2 hmem)⟩

/-- A new record's number is the first of the count that is free; each number passed over is a record's, so there are no
more of those than records (R58). -/
theorem freeNumber_spec {u : ShareUnit} (h : u.offers.length < 255) :
    ∃ d ≤ u.offers.length, u.freeNumber = nextOfferNumber^[d] u.nextNumber ∧
      (∀ i < d, nextOfferNumber^[i] u.nextNumber ∈ u.offers.map Offer.number) ∧
      u.freeNumber ∉ u.offers.map Offer.number := by
  obtain ⟨d, hd, heq, hbefore, hfree⟩ := firstFreeNumber_spec u.offers u.nextNumber 255
  have hnodup : ((List.range d).map fun i => nextOfferNumber^[i] u.nextNumber).Nodup :=
    List.nodup_range.map_on fun i hi j hj heq =>
      iterate_nextOfferNumber_inj _ (lt_of_lt_of_le (List.mem_range.1 hi) hd)
        (lt_of_lt_of_le (List.mem_range.1 hj) hd) heq
  have hsubset : ((List.range d).map fun i => nextOfferNumber^[i] u.nextNumber) ⊆
      u.offers.map Offer.number := fun x hx => by
    obtain ⟨i, hi, rfl⟩ := List.mem_map.1 hx
    exact hbefore i (List.mem_range.1 hi)
  have hlength := (hnodup.subperm hsubset).length_le
  rw [List.length_map, List.length_range, List.length_map] at hlength
  refine ⟨d, hlength, heq, hbefore, ?_⟩
  have hcarried := hfree (lt_of_le_of_lt hlength h)
  rwa [← heq] at hcarried

theorem freeNumber_ne_of_mem {u : ShareUnit} (h : u.offers.length < 255) {o : Offer} (ho : o ∈ u.offers) :
    o.number ≠ u.freeNumber := fun heq => by
  obtain ⟨-, -, -, -, hfree⟩ := freeNumber_spec h
  exact hfree (heq ▸ List.mem_map_of_mem ho)

theorem freeNumber_ne_zero {u : ShareUnit} (h : u.offers.length < 255) (hcounter : u.nextNumber ≠ 0) :
    u.freeNumber ≠ 0 := by
  obtain ⟨d, -, heq, -, -⟩ := freeNumber_spec h
  rw [heq, iterate_nextOfferNumber hcounter]
  exact countedNumber_ne_zero _

/-- The counter's own number is given out when it is free. -/
theorem freeNumber_eq_next {u : ShareUnit} (h : ∀ o ∈ u.offers, o.number ≠ u.nextNumber) :
    u.freeNumber = u.nextNumber := by
  have hfree : (u.offers.any fun o => o.number == u.nextNumber) = false := by
    simpa using h
  rw [ShareUnit.freeNumber, firstFreeNumber, hfree, if_neg (by simp)]

/-! ### OFFER (R60, R61) -/

theorem maps_iff (s : State) (q : Port) (x : Nat) :
    s.maps q x = true ↔ ∃ e ∈ (s.port q).aperture.slots, e.2.frame = x := by
  simp [State.maps]

/-- The rights that an OFFER's last byte names (10.3). -/
def offeredRights (x : List Byte) : Rights := if field x 3 1 = 0 then .ro else .rw

/-- An accepted OFFER names rights: another value is refused MALFORMED (R203). -/
theorem State.Accepts.offer_rights {s : State} {p : Port} {f : RequestFrame} (h : s.Accepts p .offer f) :
    rightsOf (field f.payload 3 1) = some (offeredRights f.payload) := by
  have hformed : wellFormedRequest .offer f = true := by
    have hpasses := h.passes
    unfold State.refusalOf at hpasses
    split at hpasses
    · assumption
    · cases hpasses
  have hnamed : (rightsOf (field f.payload 3 1)).isSome = true := by
    simp only [wellFormedRequest, reservedValue, Bool.and_eq_true, Bool.not_eq_true',
      Option.isNone_eq_false_iff] at hformed
    exact hformed.2
  unfold rightsOf offeredRights at *
  split
  · rfl
  · rename_i hro
    rw [if_neg hro] at hnamed
    split at hnamed
    · rename_i hrw; rw [if_pos hrw]
    · cases hnamed

section
variable {s : State} {p : Port} {x : List Byte}

/-- The checks of OFFER in their order (R60). -/
theorem offer_bounds (h : 4096 ≤ field x 0 2) : s.offer p x = .failed s .bounds := by
  rw [State.offer]
  exact if_pos h

theorem offer_badPort (hpage : field x 0 2 < 4096) (h : 4 ≤ field x 2 1) :
    s.offer p x = .failed s .badValue := by
  rw [State.offer, portOf_none h]
  exact if_neg (Nat.not_le.2 hpage)

section
variable (hpage : field x 0 2 < 4096) {q : Port} (hq : field x 2 1 = q.val)
  (hrights : rightsOf (field x 3 1) = some (offeredRights x))
include hpage hq hrights

theorem offer_self (hself : q = p) : s.offer p x = .failed s .self := by
  rw [State.offer, portOf_val hq, hrights]
  exact (if_neg (Nat.not_le.2 hpage)).trans (if_pos hself)

theorem offer_unmapped (hne : q ≠ p) (hempty : s.slotAt p (field x 0 2) = none) :
    s.offer p x = .failed s .notMapped := by
  rw [State.offer, portOf_val hq, hrights, hempty]
  exact (if_neg (Nat.not_le.2 hpage)).trans (if_neg hne)

theorem offer_mapped (hne : q ≠ p) {m : Mapping} (hm : s.slotAt p (field x 0 2) = some m) :
    s.offer p x = s.offerMapping p q (field x 0 2) (offeredRights x) m := by
  rw [State.offer, portOf_val hq, hrights, hm]
  exact (if_neg (Nat.not_le.2 hpage)).trans (if_neg hne)

end

end

/-- Checks 5 to 9, once the rights suffice. -/
theorem offerMapping_rights {s : State} {p q : Port} {page : Nat} {rights : Rights} {m : Mapping}
    (h : ¬(rights = .rw ∧ m.rights = .ro)) :
    s.offerMapping p q page rights m =
      if (s.port q).session.state ≠ .opened then .failed s .portClosed
      else if s.maps q m.frame then .failed s .alreadyMapped
      else if s.share.offers.any fun o => o.frame == m.frame && o.target == q then .failed s .offerPending
      else if 16 ≤ s.share.offers.length then .failed s .offersFull
      else .ok (s.createOffer (s.newOffer p q page m.frame rights))
        (.offered s.share.freeNumber page q rights s.share.lifetime) := by
  have hsuffice : ¬(rights = .rw ∧ m.rights ≠ .rw) := by
    revert h
    cases rights <;> cases m.rights <;> simp
  rw [State.offerMapping, if_neg hsuffice]
  rfl

theorem any_subject_iff {offers : List Offer} {frame : Nat} {q : Port} :
    (offers.any fun o => o.frame == frame && o.target == q) = true ↔
      ∃ o ∈ offers, o.frame = frame ∧ o.target = q := by
  simp

/-- A record for a port that is OPEN: the table with it at the end, the counter moved on, the target told. -/
theorem createOffer_opened {s : State} {o : Offer} (h : (s.port o.target).session.state = .opened) :
    s.createOffer o =
      ({ s with share := { s.share with offers := s.share.offers ++ [o],
                                        nextNumber := nextOfferNumber o.number } } : State).modTransmit
        o.target fun t => t.enterNotice (.offerReceived o.number o.offering o.rights) := by
  rw [State.createOffer, raiseNotice_in (by rw [State.inSession, port_modShare, h]; rfl)]
  rfl

/-- An accepted request that acts at acceptance, and whose action answers so. -/
theorem State.Accepts.acted {s : State} {p : Port} {k : RequestKind} {f : RequestFrame} (h : s.Accepts p k f)
    (hk : k ≠ .openSession) {act : State → Answer} (hact : Acted p k s (act s).state) {a : Answer}
    (ha : act s = a) :
    ∃ t, whenRunning s (s.requestArrives p k f fun t => t.acceptDone p k f act) = .next t ∧
      s.Answers t p k f a.result a.payload ∧ OnlyQueued p a.state t := by
  have hacting := h.acting hk hact
  rwa [ha] at hacting

/-- Settles O25: each check by the branch of OFFER that it is, and the number by the count of R58. -/
theorem offerChecksAndCreatesARecord : Obligations.OfferChecksAndCreatesARecord := by
  refine ⟨maps_iff, fun s p f haccepts => ?_⟩
  intro page rights fails
  have hrights := haccepts.offer_rights
  have hanswer : ∀ {a : Answer}, s.offer p f.payload = a → ∃ t, exec (.offer p f) s = .next t ∧
      s.Answers t p .offer f a.result a.payload ∧ OnlyQueued p a.state t := fun ha =>
    haccepts.acted (by decide) (act := fun u => u.offer p f.payload) (offer_acted s p _) ha
  have hfails : ∀ {r : ResultCode}, s.offer p f.payload = .failed s r → fails r := fun ha => hanswer ha
  refine ⟨fun h => hfails (offer_bounds h), fun hpage h => hfails (offer_badPort hpage h),
    fun hpage hself => hfails (offer_self hpage hself hrights rfl), fun q hpage hq hne =>
      ⟨fun hempty => hfails (offer_unmapped hpage hq hrights hne hempty), fun m hm => ?_⟩⟩
  have hmapping : s.offer p f.payload = s.offerMapping p q page rights m :=
    offer_mapped hpage hq hrights hne hm
  refine ⟨fun ⟨hrw, hro⟩ => hfails ?_, fun hsuffice => ?_⟩
  · rw [hmapping, State.offerMapping, if_pos ⟨hrw, by simp [hro]⟩]
  · have hchecks := hmapping.trans (offerMapping_rights hsuffice)
    refine ⟨fun hclosed => hfails ?_, fun hopened => ⟨fun hmaps => hfails ?_, fun hmaps hsame => hfails ?_,
      fun hmaps hsame hfull => hfails ?_, fun hmaps hsame hroom => ?_⟩⟩
    · rw [hchecks, if_pos hclosed]
    · rw [hchecks, if_neg (not_not.2 hopened), if_pos hmaps]
    · rw [hchecks, if_neg (not_not.2 hopened), if_neg (by simp [hmaps]), if_pos (any_subject_iff.2 hsame)]
    · rw [hchecks, if_neg (not_not.2 hopened), if_neg (by simp [hmaps]), if_neg (mt any_subject_iff.1 hsame),
        if_pos hfull]
    · rw [if_neg (not_not.2 hopened), if_neg (by simp [hmaps]), if_neg (mt any_subject_iff.1 hsame),
        if_neg (Nat.not_le.2 hroom)] at hchecks
      obtain ⟨t, hexec, hans, hqueued⟩ := hanswer hchecks
      have hfew : s.share.offers.length < 255 := lt_trans hroom (by decide)
      refine ⟨t, s.share.freeNumber, hexec, hans, fun o ho => freeNumber_ne_of_mem hfew ho,
        freeNumber_ne_zero hfew, freeNumber_eq_next, fun hcounter => ?_, ?_⟩
      · obtain ⟨d, hd, heq, hbefore, -⟩ := freeNumber_spec hfew
        refine ⟨d, by omega, heq.trans (iterate_nextOfferNumber hcounter d), fun i hi => ?_⟩
        obtain ⟨o, ho, hnumber⟩ := List.mem_map.1 (hbefore i hi)
        exact ⟨o, ho, hnumber.trans (iterate_nextOfferNumber hcounter i)⟩
      · have hcreated := createOffer_opened (o := s.newOffer p q page m.frame rights) hopened
        exact hcreated ▸ hqueued

/-! ### ACCEPT (R62, R63) -/

theorem offerTo_none {s : State} {n : Byte} {p : Port} (h : ∀ o ∈ s.share.offers, ¬(o.number = n ∧ o.target = p)) :
    s.offerTo n p = none :=
  List.find?_eq_none.2 fun o ho => by simpa using h o ho

theorem offerBy_none {s : State} {n : Byte} {p : Port} (h : ∀ o ∈ s.share.offers, ¬(o.number = n ∧ o.offering = p)) :
    s.offerBy n p = none :=
  List.find?_eq_none.2 fun o ho => by simpa using h o ho

section
variable {s : State} {p : Port} {x : List Byte}

theorem acceptOffer_noOffer (h : s.offerTo (byteAt x 0) p = none) : s.acceptOffer p x = .failed s .noOffer := by
  rw [State.acceptOffer]
  simp only [h]

/-- The state after an ACCEPT that passed its checks: the record removed, the page mapped, the offering port told. -/
def State.accepting (s : State) (p : Port) (n : Byte) (page : Nat) (o : Offer) : State :=
  ((s.removeOffer n).mapAccepted p page o).raiseNotice o.offering (.offerTaken n page)

theorem acceptOffer_offered {o : Offer} (h : s.offerTo (byteAt x 0) p = some o) :
    s.acceptOffer p x =
      if 4096 ≤ field x 1 2 then .failed s .bounds
      else if (s.slotAt p (field x 1 2)).isSome then .failed s .pageInUse
      else if (s.port p).aperture.quota < s.mappedCount p + 1 then .failed s .quota
      else .ok (s.accepting p (byteAt x 0) (field x 1 2) o)
        (.accepted (byteAt x 0) (field x 1 2) o.frame o.rights) := by
  rw [State.acceptOffer]
  simp only [h]
  rfl

end

theorem slotAt_accepting (s : State) (p : Port) (n : Byte) (page : Nat) (o : Offer) :
    (s.accepting p n page o).slotAt p page =
      some { frame := o.frame, rights := o.rights, origin := .accepted } := by
  rw [State.slotAt, State.accepting, aperture_raiseNotice, State.mapAccepted, port_hold, aperture_setSlot_same]
  exact Sparse.get_set_some _ _ _

/-- Settles O26: each check by the branch of ACCEPT that it is. -/
theorem acceptMapsTheOfferedFrame : Obligations.AcceptMapsTheOfferedFrame := by
  intro s p f haccepts n page fails
  have hanswer : ∀ {a : Answer}, s.acceptOffer p f.payload = a → ∃ t, exec (.accept p f) s = .next t ∧
      s.Answers t p .accept f a.result a.payload ∧ OnlyQueued p a.state t := fun ha =>
    haccepts.acted (by decide) (act := fun u => u.acceptOffer p f.payload) (acceptOffer_acted s p _) ha
  have hfails : ∀ {r : ResultCode}, s.acceptOffer p f.payload = .failed s r → fails r := fun ha => hanswer ha
  refine ⟨fun hnone => hfails (acceptOffer_noOffer (offerTo_none hnone)), fun o ho => ?_⟩
  have hchecks := acceptOffer_offered (x := f.payload) ho
  refine ⟨fun h => hfails ?_, fun hpage hused => hfails ?_, fun hpage hempty hquota => hfails ?_,
    fun hpage hempty hquota => ?_⟩
  · rw [hchecks, if_pos h]
  · rw [hchecks, if_neg (Nat.not_le.2 hpage), if_pos (Option.isSome_iff_ne_none.2 hused)]
  · have hslot : ¬(s.slotAt p page).isSome = true := by simp [hempty]
    rw [hchecks, if_neg (Nat.not_le.2 hpage), if_neg hslot, if_pos hquota]
  · have hslot : ¬(s.slotAt p page).isSome = true := by simp [hempty]
    rw [if_neg (Nat.not_le.2 hpage), if_neg hslot, if_neg (Nat.not_lt.2 hquota)] at hchecks
    obtain ⟨t, hexec, hans, hqueued⟩ := hanswer hchecks
    refine ⟨t, hexec, hans, hqueued, ?_⟩
    rw [State.slotAt, hqueued.aperture]
    exact slotAt_accepting s p n page o

/-! ### DECLINE and WITHDRAW (R64, R65) -/

section
variable {s : State} {p : Port} {x : List Byte} {o : Offer}

theorem declineOffer_noOffer (h : s.offerTo (byteAt x 0) p = none) : s.declineOffer p x = .failed s .noOffer := by
  rw [State.declineOffer]
  simp only [h]

theorem declineOffer_offered (h : s.offerTo (byteAt x 0) p = some o) :
    s.declineOffer p x =
      .ok ((s.removeOffer (byteAt x 0)).raiseNotice o.offering (.offerDeclined (byteAt x 0) .declined))
        (.offerNumber (byteAt x 0)) := by
  rw [State.declineOffer]
  simp only [h]

theorem withdrawOffer_noOffer (h : s.offerBy (byteAt x 0) p = none) :
    s.withdrawOffer p x = .failed s .noOffer := by
  rw [State.withdrawOffer]
  simp only [h]

theorem withdrawOffer_offered (h : s.offerBy (byteAt x 0) p = some o) :
    s.withdrawOffer p x =
      .ok ((s.removeOffer (byteAt x 0)).raiseNotice o.target (.offerWithdrawn (byteAt x 0) .withdrawn))
        (.offerNumber (byteAt x 0)) := by
  rw [State.withdrawOffer]
  simp only [h]

end

/-- Settles O27: the two requests by the record that they name, or by there being none. -/
theorem declineAndWithdrawRemoveTheRecord : Obligations.DeclineAndWithdrawRemoveTheRecord := by
  intro s p f n removed
  refine ⟨fun haccepts => ?_, fun haccepts => ?_⟩
  · obtain ⟨t, hexec, hans, hqueued⟩ := haccepts.acting (by decide)
      (act := fun u => u.declineOffer p f.payload) (declineOffer_acted s p _)
    refine ⟨t, hexec, fun hnone => ?_, fun o ho => ?_⟩
    · rw [declineOffer_noOffer (offerTo_none hnone)] at hans hqueued
      exact ⟨hans, hqueued⟩
    · rw [declineOffer_offered ho] at hans hqueued
      exact ⟨hans, hqueued⟩
  · obtain ⟨t, hexec, hans, hqueued⟩ := haccepts.acting (by decide)
      (act := fun u => u.withdrawOffer p f.payload) (withdrawOffer_acted s p _)
    refine ⟨t, hexec, fun hnone => ?_, fun o ho => ?_⟩
    · rw [withdrawOffer_noOffer (offerBy_none hnone)] at hans hqueued
      exact ⟨hans, hqueued⟩
    · rw [withdrawOffer_offered ho] at hans hqueued
      exact ⟨hans, hqueued⟩

end Sys2Proof.Machine
end

section
/-! SUPPORT. The timers (R66, R144, R159, R173). -/

namespace Sys2Proof.Machine

/-- The hold timer stops, and HOLD_OVERDUE is raised if the present hold has not raised it (R144). -/
theorem holdExpired_overdue {s : State} {p : Port} (hhold : (s.port p).transmit.hold = true)
    (hsent : (s.port p).transmit.overdueSent = false) :
    s.holdExpired p =
      (s.modTransmit p fun t => { t with holdTimer := none, overdueSent := true }).raiseNotice p .holdOverdue := by
  rw [State.holdExpired]
  simp only [hhold, hsent, Bool.false_eq_true, not_false_eq_true, and_self, if_true]
  rw [State.modTransmit, State.modTransmit, modPort_modPort]
  rfl

theorem holdExpired_quiet {s : State} {p : Port}
    (h : (s.port p).transmit.hold = false ∨ (s.port p).transmit.overdueSent = true) :
    s.holdExpired p = s.modTransmit p fun t => { t with holdTimer := none } := by
  rw [State.holdExpired]
  refine if_neg fun ⟨hhold, hsent⟩ => ?_
  rcases h with h | h
  · rw [h] at hhold; cases hhold
  · exact hsent h

/-- The first three expiries in a row of the replay timer (R173). -/
theorem replayExpired_retries {s : State} {p : Port} (h : (s.port p).link.timeouts ≤ 2) :
    s.replayExpired p = s.modLink p fun l => l.timeout s.now (ticks s.replayTimeout) := by
  rw [State.replayExpired, if_pos (Nat.lt_succ_of_le h)]

/-- Settles O51: each expiry by whether its timer runs, or its record stands. -/
theorem timersExpire : Obligations.TimersExpire := by
  intro s hrun at'
  have hrunning : ∀ (next : State), whenRunning s next = .next next := whenRunning_high hrun
  refine ⟨fun p hnone => ?_, fun p due hdue => ?_, fun p hnone => ?_, fun p time htime hfew => ?_,
    fun p hnone => ?_, fun p time htime => ⟨fun hhold hsent => ?_, fun hover => ?_⟩,
    fun n hgone => ?_, fun n o ho => ?_⟩
  · refine (hrunning _).trans ?_
    rw [hnone]
  · refine (hrunning _).trans ?_
    rw [hdue]
    rfl
  · refine (hrunning _).trans ?_
    rw [hnone]
  · refine (hrunning _).trans ?_
    rw [htime]
    exact congrArg _ (replayExpired_retries (s := at' time) hfew)
  · refine (hrunning _).trans ?_
    rw [hnone]
  · refine (hrunning _).trans ?_
    rw [htime]
    exact congrArg _ (holdExpired_overdue (s := at' time) hhold hsent)
  · refine (hrunning _).trans ?_
    rw [htime]
    exact congrArg _ (holdExpired_quiet (s := at' time) hover)
  · have hnone : s.offerNumbered n = none := List.find?_eq_none.2 fun o ho => by simpa using hgone o ho
    refine (hrunning _).trans ?_
    rw [hnone]
  · have hnumbered : s.offerNumbered n = some o := ho
    refine (hrunning _).trans ?_
    rw [hnumbered]
    rfl

end Sys2Proof.Machine
end

section
/-! SUPPORT. Offers in order: what the records of the offer table rest on, and that each operation upholds it or takes the
records out (R56 to R58, R60, R67, R68). -/

namespace Sys2Proof.Machine

/-! ### What the records rest on -/

/-- Records of the offer table go at most, and the counter of offer numbers stays. -/
structure ShareUnit.Shrinks (u v : ShareUnit) : Prop where
  offers : v.offers.Sublist u.offers
  counter : v.nextNumber = u.nextNumber

theorem ShareUnit.Shrinks.refl (u : ShareUnit) : u.Shrinks u := ⟨.refl _, rfl⟩

theorem ShareUnit.Shrinks.of_eq {u v : ShareUnit} (h : v = u) : u.Shrinks v := h ▸ .refl u

theorem ShareUnit.Shrinks.trans {u v w : ShareUnit} (h : u.Shrinks v) (g : v.Shrinks w) : u.Shrinks w :=
  ⟨g.offers.trans h.offers, g.counter.trans h.counter⟩

theorem ShareUnit.Shrinks.removeOffers (u : ShareUnit) (gone : Offer → Bool) : u.Shrinks (u.removeOffers gone) :=
  ⟨List.filter_sublist, rfl⟩

/-- No record is new, a port in session stays in session, and a MAPPED page keeps its mapping. -/
structure Upholds (s t : State) : Prop where
  share : s.share.Shrinks t.share
  session : ∀ p, s.inSession p = true → t.inSession p = true
  slots : ∀ p g m, s.slotAt p g = some m → t.slotAt p g = some m

theorem Upholds.refl (s : State) : Upholds s s := ⟨.refl _, fun _ => id, fun _ _ _ => id⟩

theorem Upholds.trans {s t u : State} (h : Upholds s t) (g : Upholds t u) : Upholds s u :=
  ⟨h.share.trans g.share, fun p hp => g.session p (h.session p hp), fun p k m hm => g.slots p k m (h.slots p k m hm)⟩

/-- The records that are left stay in order, if their parties are in session and their pages mapped as before. -/
theorem State.OffersInOrder.shrink {s t : State} (h : s.OffersInOrder) (hshare : s.share.Shrinks t.share)
    (hsession : ∀ o ∈ t.share.offers, ∀ p, p = o.offering ∨ p = o.target →
      s.inSession p = true → t.inSession p = true)
    (hslots : ∀ o ∈ t.share.offers, ∀ m, s.slotAt o.offering o.page = some m →
      t.slotAt o.offering o.page = some m) : t.OffersInOrder := by
  have hold : ∀ o ∈ t.share.offers, o ∈ s.share.offers := fun o ho => hshare.offers.subset ho
  refine ⟨le_trans hshare.offers.length_le h.places, hshare.counter ▸ h.counter, h.numbers.sublist hshare.offers,
    fun o ho => h.nonzero o (hold o ho), fun o ho => ?_, fun o ho => ?_, h.subjects.sublist hshare.offers⟩
  · obtain ⟨hdistinct, hoffering, htarget⟩ := h.parties o (hold o ho)
    exact ⟨hdistinct, hsession o ho _ (.inl rfl) hoffering, hsession o ho _ (.inr rfl) htarget⟩
  · obtain ⟨m, hm, hframe⟩ := h.mapped o (hold o ho)
    exact ⟨m, hslots o ho m hm, hframe⟩

theorem State.OffersInOrder.upheld {s t : State} (h : s.OffersInOrder) (hupholds : Upholds s t) : t.OffersInOrder :=
  h.shrink hupholds.share (fun _ _ p _ => hupholds.session p) fun _ _ => hupholds.slots _ _

/-! ### Updates that uphold it -/

theorem slotAt_congr {s t : State} {p : Port} (h : (t.port p).aperture.slots = (s.port p).aperture.slots) (g : Nat) :
    t.slotAt p g = s.slotAt p g := by
  rw [State.slotAt, State.slotAt, h]

/-- An operation that settles, and leaves the page slots as they are. -/
theorem Settles.upholds {s t : State} (h : Settles s t) (hshare : s.share.Shrinks t.share)
    (haperture : ∀ p, (t.port p).aperture = (s.port p).aperture) : Upholds s t :=
  ⟨hshare, fun p hp => by rw [h.inSession]; exact hp, fun p g m hm =>
    (slotAt_congr (by rw [haperture]) g).trans hm⟩

theorem Quiet.upholds {s t : State} (h : Quiet s t) : Upholds s t :=
  h.settles.upholds (.of_eq h.share) h.aperture

/-- A change outside the ports that brings no record. -/
theorem upholds_of_ports {s t : State} (hports : t.ports = s.ports) (hshare : s.share.Shrinks t.share) :
    Upholds s t := by
  have hport : ∀ p, t.port p = s.port p := fun p => by rw [State.port, State.port, hports]
  refine ⟨hshare, fun p hp => ?_, fun p g m hm => (slotAt_congr (by rw [hport]) g).trans hm⟩
  rwa [State.inSession, hport]

/-- A change of one port that does not take it out of session and leaves its page slots as they are. -/
theorem modPort_upholds {s : State} {p : Port} {f : PortState → PortState}
    (hsession : s.inSession p = true → (f (s.port p)).session.state.inSession = true)
    (hslots : (f (s.port p)).aperture.slots = (s.port p).aperture.slots) : Upholds s (s.modPort p f) := by
  refine ⟨.refl _, fun q hq => ?_, fun q g m hm => ?_⟩
  · by_cases hqp : q = p
    · subst hqp; rw [State.inSession, port_modPort_same]; exact hsession hq
    · rw [State.inSession, port_modPort_ne s hqp]; exact hq
  · refine (slotAt_congr ?_ g).trans hm
    by_cases hqp : q = p
    · subst hqp; rw [port_modPort_same, hslots]
    · rw [port_modPort_ne s hqp]

theorem modLink_upholds (s : State) (p : Port) (f : LinkUnit → LinkUnit) : Upholds s (s.modLink p f) :=
  modPort_upholds id rfl

theorem modTransmit_upholds (s : State) (p : Port) (f : TransmitUnit → TransmitUnit) :
    Upholds s (s.modTransmit p f) :=
  modPort_upholds id rfl

theorem modRequests_upholds (s : State) (p : Port) (f : RequestUnit → RequestUnit) :
    Upholds s (s.modRequests p f) :=
  modPort_upholds id rfl

theorem send_upholds (s : State) (p : Port) (f : LinkFrame) : Upholds s (s.send p f) := modPort_upholds id rfl

theorem modSession_upholds {s : State} {p : Port} {f : PortController → PortController}
    (h : s.inSession p = true → (f (s.port p).session).state.inSession = true) : Upholds s (s.modSession p f) :=
  modPort_upholds h rfl

/-- A port out of session may change its session as it will. -/
theorem modSession_upholds_out {s : State} {p : Port} (h : s.inSession p = false)
    (f : PortController → PortController) : Upholds s (s.modSession p f) :=
  modSession_upholds fun hin => absurd hin (by simp [h])

theorem setQuota_upholds (s : State) (p : Port) (quota : Nat) :
    Upholds s (s.modAperture p fun a => { a with quota := quota }) :=
  modPort_upholds id rfl

theorem reachTime_upholds (s : State) (d : Nat) : Upholds s (s.reachTime d) := upholds_of_ports rfl (.refl _)

theorem modPool_upholds (s : State) (f : PoolManager → PoolManager) : Upholds s (s.modPool f) :=
  (modPool_quiet s f).upholds

theorem raiseNotice_upholds (s : State) (p : Port) (n : Notice) : Upholds s (s.raiseNotice p n) :=
  (raiseNotice_quiet s p n).upholds

theorem present_upholds (s : State) (p : Port) : Upholds s (s.present p) := modRequests_upholds s p _

theorem enqueue_upholds (s : State) (p : Port) (e : Entry) : Upholds s (s.enqueue p e) :=
  (modRequests_upholds s p _).trans (present_upholds _ p)

theorem withRole_upholds (s : State) (r : AdminRole) : Upholds s { s with role := r } :=
  upholds_of_ports rfl (.refl _)

theorem giveRole_upholds (s : State) (p : Port) : Upholds s (s.giveRole p) :=
  (withRole_upholds s _).trans (raiseAdminChanged_quiet _ _).upholds

theorem removeOffer_upholds (s : State) (n : Byte) : Upholds s (s.removeOffer n) :=
  upholds_of_ports rfl (.removeOffers _ _)

/-- An EMPTY page carries no record, so it may be filled. -/
theorem fillSlot_upholds {s : State} {p : Port} {g : Nat} (h : s.slotAt p g = none) (m : Option Mapping) :
    Upholds s (s.setSlot p g m) := by
  refine ⟨.refl _, fun q hq => by rw [(setSlot_settles s p g m).inSession]; exact hq, fun q k x hx => ?_⟩
  by_cases hq : q = p
  · subst hq
    have hk : k ≠ g := by rintro rfl; rw [h] at hx; cases hx
    rw [State.slotAt, aperture_setSlot_same]
    exact (Sparse.get_set_other _ hk m).trans hx
  · exact (slotAt_congr (by rw [aperture_setSlot_ne s hq]) k).trans hx

theorem allocated_upholds {s : State} {p : Port} {page count : Nat} (h : ¬s.usesPage p page count) :
    Upholds s (s.allocated p page count) := by
  have hsettles : Settles s (s.allocated p page count) :=
    (take_quiet s p count).settles.trans (mapFrames_settles _ p page _)
  obtain ⟨hothers, -, -, hshare, -, -⟩ := allocated_onlyAperture s p page count
  refine ⟨.of_eq hshare, fun q hq => by rw [hsettles.inSession]; exact hq, fun q k m hm => ?_⟩
  by_cases hq : q = p
  · subst hq
    have hoff : ¬(page ≤ k ∧ k < page + (s.pool.freeList.take count).length) := fun ⟨hlow, hhigh⟩ => by
      rw [List.length_take] at hhigh
      exact h ⟨k, hlow, by omega, by simp [hm]⟩
    rw [State.slotAt, aperture_allocated, get_mapSlots, if_neg hoff]
    exact hm
  · exact (slotAt_congr (by rw [hothers q hq]) k).trans hm

/-! ### The release of pages (R44, R67) -/

/-- The release of a MAPPED page takes the port's records of that page out of the table. -/
theorem share_releasePage {s : State} {p : Port} {g : Nat} (h : s.slotAt p g ≠ none) :
    (s.releasePage p g).share = s.share.removeOffers fun o => o.offering == p && o.page == g := by
  unfold State.releasePage
  split
  · rename_i hempty
    exact absurd hempty h
  · rw [(unhold_quiet _ _).share, share_setSlot, State.withdrawForPage, share_raiseOfferNotices, share_modShare]

theorem releasePage_empty {s : State} {p : Port} {g : Nat} (h : s.slotAt p g = none) : s.releasePage p g = s := by
  simp only [State.releasePage, h]

theorem releasePage_shrinks (s : State) (p : Port) (g : Nat) : s.share.Shrinks (s.releasePage p g).share := by
  by_cases hempty : s.slotAt p g = none
  · rw [releasePage_empty hempty]; exact .refl _
  · rw [share_releasePage hempty]; exact .removeOffers _ _

theorem releasePages_shrinks (s : State) (p : Port) (gs : List Nat) :
    s.share.Shrinks (s.releasePages p gs).share := by
  induction gs generalizing s with
  | nil => exact .refl _
  | cons g gs ih => exact (releasePage_shrinks s p g).trans (ih _)

theorem State.OffersInOrder.releasePage {s : State} (h : s.OffersInOrder) (p : Port) (g : Nat) :
    (s.releasePage p g).OffersInOrder := by
  by_cases hempty : s.slotAt p g = none
  · rwa [releasePage_empty hempty]
  · refine h.shrink (releasePage_shrinks s p g)
      (fun _ _ q _ hq => by rw [(releasePage_settles s p g).inSession]; exact hq) fun o ho m hm => ?_
    rw [share_releasePage hempty, ShareUnit.removeOffers, List.mem_filter] at ho
    by_cases hparty : o.offering = p
    · have hpage : o.page ≠ g := fun hpage => by simp [hparty, hpage] at ho
      rw [hparty] at hm ⊢
      rw [slotAt_releasePage_ne s p hpage]
      exact hm
    · exact (slotAt_congr (by rw [aperture_releasePage, if_neg hparty]) _).trans hm

theorem State.OffersInOrder.releasePages {s : State} (h : s.OffersInOrder) (p : Port) (gs : List Nat) :
    (s.releasePages p gs).OffersInOrder := by
  induction gs generalizing s with
  | nil => exact h
  | cons g gs ih => exact ih (h.releasePage p g)

/-! ### The end of a session (R68, R186 to R188) -/

theorem inSession_of_teardown {s : State} {p : Port} (h : (s.port p).session.state = .teardown) :
    s.inSession p = false := by
  rw [State.inSession, h]; rfl

/-- A teardown's end finds the port out of session already. -/
theorem endTeardownIfEmpty_upholds {s : State} {p : Port} (h : (s.port p).session.state = .teardown) :
    Upholds s (s.endTeardownIfEmpty p) := by
  unfold State.endTeardownIfEmpty
  split
  · exact (modSession_upholds_out (inSession_of_teardown h) _).trans (endTeardown_quiet s p).1.upholds
  · exact .refl s

theorem share_discardEntry (s : State) (p : Port) (e : Entry) : (s.discardEntry p e).share = s.share := by
  unfold State.discardEntry
  split
  · split
    · rw [(unpin_quiet _ _).share]
      split <;> rfl
    · rfl
  · rfl

theorem share_tearQueues (s : State) (p : Port) : (s.tearQueues p).share = s.share := by
  have hfold : ∀ (es : List Entry) (t : State), (es.foldl (fun t e => t.discardEntry p e) t).share = t.share := by
    intro es
    induction es with
    | nil => exact fun _ => rfl
    | cons e es ih => exact fun t => (ih _).trans (share_discardEntry t p e)
  exact hfold _ s

theorem share_vacateRole (s : State) (p : Port) : (s.vacateRole p).share = s.share := by
  unfold State.vacateRole
  split
  · rw [share_raiseAdminChanged]
  · rfl

/-- A teardown takes every record of the port out of the table, made or received (R68). -/
theorem tornDown_shrinks (s : State) (p : Port) (cause : TeardownCause) :
    (s.share.removeOffers fun o => o.offering == p || o.target == p).Shrinks (s.tornDown p cause).share := by
  refine ShareUnit.Shrinks.trans (.of_eq ?_) (releasePages_shrinks _ p _)
  rw [share_vacateRole, State.removeOffersOf, share_raiseOfferNotices, share_modShare, share_tearQueues]
  rfl

theorem State.OffersInOrder.tornDown {s : State} (h : s.OffersInOrder) (p : Port) (cause : TeardownCause) :
    (s.tornDown p cause).OffersInOrder := by
  have hshrinks := tornDown_shrinks s p cause
  have hapart : ∀ o ∈ (s.tornDown p cause).share.offers, o.offering ≠ p ∧ o.target ≠ p := fun o ho => by
    have hleft := hshrinks.offers.subset ho
    rw [ShareUnit.removeOffers, List.mem_filter] at hleft
    simpa using hleft.2
  refine h.shrink ((ShareUnit.Shrinks.removeOffers _ _).trans hshrinks) (fun o ho q hq hin => ?_) fun o ho m hm => ?_
  · obtain ⟨hoffering, htarget⟩ := hapart o ho
    have hqp : q ≠ p := by rcases hq with rfl | rfl <;> assumption
    rw [State.inSession, (tornDown_torn s p cause).session hqp]
    exact hin
  · exact (slotAt_congr (by rw [aperture_tornDown_ne s (hapart o ho).1]) _).trans hm

theorem State.OffersInOrder.startTeardown {s : State} (h : s.OffersInOrder) (p : Port) (cause : TeardownCause) :
    (s.startTeardown p cause).OffersInOrder := by
  rw [startTeardown_eq]
  refine (h.tornDown p cause).upheld (endTeardownIfEmpty_upholds ?_)
  rw [session_tornDown]

theorem State.OffersInOrder.loseLink {s : State} (h : s.OffersInOrder) (p : Port) (st : LinkState) :
    (s.loseLink p st).OffersInOrder := by
  have hcleared := h.upheld ((modLink_upholds s p fun l => l.lose st s.now).trans
    (modTransmit_upholds _ p TransmitUnit.clearForLinkLoss))
  unfold State.loseLink
  simp only
  split
  · exact hcleared.startTeardown p _
  · exact hcleared

/-! ### A new record (R57, R58, R60) -/

/-- A record between a port in session and another that is OPEN, of a page that maps its frame and a subject that no record
has, with a free number and a place in the table. -/
theorem State.OffersInOrder.createOffer {s : State} (h : s.OffersInOrder) {p q : Port} {page : Nat} {m : Mapping}
    (hp : s.inSession p = true) (hq : s.inSession q = true) (hne : q ≠ p) (hm : s.slotAt p page = some m)
    (hsubject : ∀ o ∈ s.share.offers, ¬(o.frame = m.frame ∧ o.target = q)) (hroom : s.share.offers.length < 16)
    (rights : Rights) : (s.createOffer (s.newOffer p q page m.frame rights)).OffersInOrder := by
  have hfew : s.share.offers.length < 255 := lt_trans hroom (by decide)
  rw [State.createOffer]
  refine State.OffersInOrder.upheld ?_ (raiseNotice_upholds _ _ _)
  refine ⟨?_, nextOfferNumber_ne_zero _, ?_, fun o ho => ?_, fun o ho => ?_, fun o ho => ?_, ?_⟩
  · rw [share_modShare, List.length_append]
    exact hroom
  · refine List.pairwise_append.2 ⟨h.numbers, List.pairwise_singleton _ _, fun a ha b hb => ?_⟩
    obtain rfl := List.mem_singleton.1 hb
    exact freeNumber_ne_of_mem hfew ha
  · rcases List.mem_append.1 ho with hold | hnew
    · exact h.nonzero o hold
    · obtain rfl := List.mem_singleton.1 hnew
      exact freeNumber_ne_zero hfew h.counter
  · rcases List.mem_append.1 ho with hold | hnew
    · exact h.parties o hold
    · obtain rfl := List.mem_singleton.1 hnew
      exact ⟨hne, hp, hq⟩
  · rcases List.mem_append.1 ho with hold | hnew
    · exact h.mapped o hold
    · obtain rfl := List.mem_singleton.1 hnew
      exact ⟨m, hm, rfl⟩
  · refine List.pairwise_append.2 ⟨h.subjects, List.pairwise_singleton _ _, fun a ha b hb => ?_⟩
    obtain rfl := List.mem_singleton.1 hb
    exact hsubject a ha

end Sys2Proof.Machine
end

section
/-! SUPPORT. Offers in order: what each command does to them, and one step. -/

namespace Sys2Proof.Machine

/-! ### Requests that uphold what the records rest on -/

theorem alloc_upholds (s : State) (p : Port) (x : List Byte) : Upholds s (s.alloc p x).state := by
  by_cases hbounds : field x 0 2 + field x 2 1 ≤ 4096
  · rw [alloc_inBounds hbounds]
    split
    · exact .refl s
    · rename_i hfree
      split
      · exact .refl s
      · split
        · exact .refl s
        · exact allocated_upholds (mt (any_isSome_iff _ _).2 hfree)
  · rw [alloc_bounds (Nat.lt_of_not_le hbounds)]
    exact .refl s

theorem acceptOffer_upholds (s : State) (p : Port) (x : List Byte) : Upholds s (s.acceptOffer p x).state := by
  cases hoffer : s.offerTo (byteAt x 0) p with
  | none => rw [acceptOffer_noOffer hoffer]; exact .refl s
  | some o =>
    rw [acceptOffer_offered hoffer]
    split
    · exact .refl s
    · split
      · exact .refl s
      · rename_i hempty
        split
        · exact .refl s
        · have hslot : (s.removeOffer (byteAt x 0)).slotAt p (field x 1 2) = none :=
            Option.not_isSome_iff_eq_none.1 hempty
          exact (((removeOffer_upholds s _).trans (fillSlot_upholds hslot _)).trans
            (hold_quiet _ _).upholds).trans (raiseNotice_upholds _ _ _)

theorem declineOffer_upholds (s : State) (p : Port) (x : List Byte) : Upholds s (s.declineOffer p x).state := by
  cases hoffer : s.offerTo (byteAt x 0) p with
  | none => rw [declineOffer_noOffer hoffer]; exact .refl s
  | some o =>
    rw [declineOffer_offered hoffer]
    exact (removeOffer_upholds s _).trans (raiseNotice_upholds _ _ _)

theorem withdrawOffer_upholds (s : State) (p : Port) (x : List Byte) : Upholds s (s.withdrawOffer p x).state := by
  cases hoffer : s.offerBy (byteAt x 0) p with
  | none => rw [withdrawOffer_noOffer hoffer]; exact .refl s
  | some o =>
    rw [withdrawOffer_offered hoffer]
    exact (removeOffer_upholds s _).trans (raiseNotice_upholds _ _ _)

theorem openSession_upholds (s : State) (p : Port) : Upholds s (s.openSession p).state := by
  have hopened := (modSession_upholds (s := s) (p := p) (f := fun c => { c with state := .opened })
    fun _ => rfl).trans (modRequests_upholds _ p fun r => { r with nextExpedited := 0, nextOrdinary := 0 })
  unfold State.openSession
  simp only [Answer.ok]
  refine Upholds.trans ?_ (raisePortState_quiet _ _ _ _).upholds
  split
  · exact hopened.trans (giveRole_upholds _ p)
  · exact hopened

theorem setOrder_upholds (s : State) (p : Port) (x : List Byte) : Upholds s (s.setOrder p x).state := by
  unfold State.setOrder
  simp only
  split
  · split
    · simp only [Answer.ok]
      exact modRequests_upholds s p _
    · exact .refl s
  · exact .refl s

theorem claimAdmin_upholds (s : State) (p : Port) : Upholds s (s.claimAdmin p).state := by
  unfold State.claimAdmin
  split
  · exact giveRole_upholds s p
  · split <;> exact .refl s
  · exact .refl s

theorem handAdmin_upholds (s : State) (p : Port) (x : List Byte) : Upholds s (s.handAdmin p x).state := by
  unfold State.handAdmin
  split
  · exact .refl s
  · split
    · exact .refl s
    · split
      · exact giveRole_upholds s _
      · exact .refl s

theorem defineRegion_upholds (s : State) (x : List Byte) : Upholds s (s.defineRegion x).state := by
  unfold State.defineRegion
  simp only
  split
  · exact .refl s
  · split
    · exact .refl s
    · split
      · exact .refl s
      · simp only [Answer.ok]
        exact (modRegion_quiet s _ _).upholds

theorem undefineRegion_upholds (s : State) (x : List Byte) : Upholds s (s.undefineRegion x).state := by
  unfold State.undefineRegion
  split
  · exact .refl s
  · split
    · simp only [Answer.ok]
      exact (modRegion_quiet s _ _).upholds
    · exact .refl s

theorem onlineRegion_upholds (s : State) (x : List Byte) : Upholds s (s.onlineRegion x).state := by
  unfold State.onlineRegion
  split
  · exact .refl s
  · split
    · exact (bringOnline_quiet s _).upholds
    · exact .refl s

theorem retireRequest_upholds (s : State) (x : List Byte) : Upholds s (s.retireRequest x).state := by
  unfold State.retireRequest
  split
  · exact .refl s
  · split
    · exact (startDrain_quiet s _ _).upholds
    · exact .refl s

theorem setQuotaRequest_upholds (s : State) (x : List Byte) : Upholds s (s.setQuota x).state := by
  unfold State.setQuota
  simp only
  split
  · exact .refl s
  · split
    · exact .refl s
    · split
      · exact .refl s
      · exact setQuota_upholds s _ _

theorem setWeight_upholds (s : State) (x : List Byte) : Upholds s (s.setWeight x).state := by
  unfold State.setWeight
  simp only
  split
  · exact upholds_of_ports rfl (.refl _)
  · exact .refl s

theorem setOfferLife_upholds (s : State) (v : Nat) : Upholds s (s.setOfferLife v).state := by
  unfold State.setOfferLife
  split
  · exact upholds_of_ports rfl ⟨.refl _, rfl⟩
  · exact .refl s

theorem setHoldLimit_upholds (s : State) (v : Nat) : Upholds s (s.setHoldLimit v).state := by
  unfold State.setHoldLimit
  split
  · exact upholds_of_ports rfl (.refl _)
  · exact .refl s

theorem setErrorLimit_upholds (s : State) (v : Nat) : Upholds s (s.setErrorLimit v).state := by
  unfold State.setErrorLimit
  split
  · simp only [Answer.ok]
    exact modPool_upholds s _
  · exact .refl s

theorem setReplayTimeout_upholds (s : State) (v : Nat) : Upholds s (s.setReplayTimeout v).state := by
  unfold State.setReplayTimeout
  split
  · exact upholds_of_ports rfl (.refl _)
  · exact .refl s

/-- ENABLE_PORT takes a DISABLED port, which is out of session, to CLOSED (R191). -/
theorem enablePort_upholds (s : State) (x : List Byte) : Upholds s (s.enablePort x).state := by
  unfold State.enablePort
  split
  · exact .refl s
  · split
    · rename_i q _ hstate
      have hout : s.inSession q = false := by rw [State.inSession, hstate]; rfl
      exact (modSession_upholds_out hout _).trans (raisePortState_quiet _ _ _ _).upholds
    · exact .refl s

theorem acceptBarrier_upholds (s : State) (p : Port) (k : RequestKind) (f : RequestFrame) :
    Upholds s (s.acceptBarrier p k f) := by
  unfold State.acceptBarrier
  simp only
  split <;> exact enqueue_upholds s p _

theorem acceptRead_upholds (s : State) (p : Port) (f : RequestFrame) : Upholds s (s.acceptRead p f) := by
  unfold State.acceptRead
  simp only
  split
  · exact enqueue_upholds s p _
  · exact (pin_quiet s _).upholds.trans (enqueue_upholds _ p _)

theorem acceptWrite_upholds (s : State) (p : Port) (f : RequestFrame) : Upholds s (s.acceptWrite p f) := by
  unfold State.acceptWrite
  simp only
  split
  · exact enqueue_upholds s p _
  · exact ((pin_quiet s _).upholds.trans (modRequests_upholds _ p _)).trans (enqueue_upholds _ p _)

/-! ### Requests that bring a record or take records out -/

section
variable {s : State} (h : s.OffersInOrder)
include h

theorem State.OffersInOrder.release (p : Port) (x : List Byte) : (s.release p x).state.OffersInOrder := by
  unfold State.release
  simp only
  split
  · exact h
  · split
    · exact h
    · exact h.releasePages p _

theorem State.OffersInOrder.offerMapping {p q : Port} {page : Nat} {m : Mapping} (hp : s.inSession p = true)
    (hne : q ≠ p) (hm : s.slotAt p page = some m) (rights : Rights) :
    (s.offerMapping p q page rights m).state.OffersInOrder := by
  unfold State.offerMapping
  split
  · exact h
  · split
    · exact h
    · rename_i hopened
      split
      · exact h
      · split
        · exact h
        · rename_i hsubject
          split
          · exact h
          · rename_i hroom
            have hq : s.inSession q = true := by rw [State.inSession, not_not.1 hopened]; rfl
            exact h.createOffer hp hq hne hm (fun o ho hsame => hsubject (any_subject_iff.2 ⟨o, ho, hsame⟩))
              (Nat.lt_of_not_le hroom) rights

theorem State.OffersInOrder.offer {p : Port} (hp : s.inSession p = true) (x : List Byte) :
    (s.offer p x).state.OffersInOrder := by
  unfold State.offer
  simp only
  split
  · exact h
  · split
    · split
      · exact h
      · rename_i hne
        split
        · rename_i m hm
          exact h.offerMapping hp hne hm _
        · exact h
    · exact h
    · exact h

/-- DISABLE_PORT tears a session down, or finds the port out of session (R190). -/
theorem State.OffersInOrder.disable (q : Port) : (s.disable q).OffersInOrder := by
  unfold State.disable
  split
  · exact h.startTeardown q _
  · exact h.startTeardown q _
  · rename_i hstate
    exact h.upheld (modSession_upholds_out (inSession_of_teardown hstate) _)
  · rename_i hstate
    have hout : s.inSession q = false := by rw [State.inSession, hstate]; rfl
    exact h.upheld ((modSession_upholds_out hout _).trans (raisePortState_quiet _ _ _ _).upholds)
  · exact h

theorem State.OffersInOrder.disablePort (p : Port) (x : List Byte) : (s.disablePort p x).state.OffersInOrder := by
  unfold State.disablePort
  split
  · exact h
  · split
    · exact h
    · exact h.disable _

theorem State.OffersInOrder.evictPort (p : Port) (x : List Byte) : (s.evictPort p x).state.OffersInOrder := by
  unfold State.evictPort
  split
  · exact h
  · split
    · exact h
    · split
      · simp only [State.portAnswer, Answer.ok]
        exact h.startTeardown _ _
      · exact h

theorem State.OffersInOrder.administrative {p : Port} {act : State → Answer}
    (hact : (act s).state.OffersInOrder) : (s.administrative p act).state.OffersInOrder := by
  unfold State.administrative
  split
  · exact hact
  · exact h

end

/-! ### Frames on the link -/

/-- A sequenced frame changes the link, beside what being taken does. -/
theorem receiveSequenced_upholds {s : State} {p : Port} {seq : Byte} {offer : State → Option State}
    (hoffer : ∀ u t, offer u = some t → Upholds u t) : Upholds s (s.receiveSequenced p seq offer) := by
  have hoffered : ∀ u : State, Upholds u (u.offerInSequence p seq offer) := by
    intro u
    unfold State.offerInSequence
    split
    · rename_i t ht
      exact (hoffer u t ht).trans (modLink_upholds t p _)
    · exact modLink_upholds u p _
  unfold State.receiveSequenced State.sequencedIntoUp State.sequencedInUp
  split
  · exact .refl s
  · exact .refl s
  · split
    · exact (modLink_upholds s p _).trans (hoffered _)
    · exact (modLink_upholds s p _).trans (modLink_upholds _ p _)
  · split
    · exact hoffered s
    · exact modLink_upholds s p _
    · exact modLink_upholds s p _

theorem refuse_upholds {s t : State} {p : Port} {f : RequestFrame} {reason : RefusalReason}
    (h : s.refuse p f reason = some t) : Upholds s t := by
  unfold State.refuse at h
  split at h
  · cases h
    exact modTransmit_upholds s p _
  · cases h

theorem State.OffersInOrder.requestArrives {s : State} (h : s.OffersInOrder) {p : Port} {k : RequestKind}
    {f : RequestFrame} {accept : State → State}
    (haccept : ∀ u, u.OffersInOrder → u.refusalOf p k f = none → (accept u).OffersInOrder) :
    (s.requestArrives p k f accept).OffersInOrder :=
  requestArrives_induct (P := State.OffersInOrder) h (fun _ => h.upheld (modLink_upholds s p _))
    (fun u hu => hu.upheld (modLink_upholds u p _)) (fun u hu => hu.upheld (modLink_upholds u p _))
    (fun u hu => hu.upheld (modLink_upholds u p _)) (fun u _ hu _ => hu.upheld (modTransmit_upholds u p _)) haccept

theorem giveUp_upholds (s : State) (p : Port) (x : Source) : Upholds s (s.modPort p fun q => q.giveUp x) := by
  refine modPort_upholds (fun hin => ?_) ?_
  · cases x <;> exact hin
  · cases x <;> rfl

theorem State.OffersInOrder.transmitNew {s : State} (h : s.OffersInOrder) (p : Port) :
    (s.transmitNew p).OffersInOrder := by
  unfold State.transmitNew
  split
  · split
    · rename_i x _
      have hhanded : (s.handOver p x).OffersInOrder := h.upheld
        (((giveUp_upholds s p x).trans (modLink_upholds _ p _)).trans (send_upholds _ p _))
      unfold State.afterReply
      split
      · split
        · exact hhanded.startTeardown p _
        · exact hhanded
      · exact hhanded
      · exact hhanded
    · exact h
  · exact h

/-! ### The memory channel and the timers -/

theorem tellGranted_upholds (s : State) (x : Participant) : Upholds s (s.tellGranted x) := by
  unfold State.tellGranted
  split
  · exact (modRequests_upholds s _ _).trans (present_upholds _ _)
  · exact modPool_upholds s _

theorem granting_upholds (s : State) (x : Participant) (o : Operation) (lines : Nat) :
    Upholds s (s.granting x o lines) :=
  upholds_of_ports rfl (.refl _)

theorem takeGrant_upholds (s : State) : Upholds s s.takeGrant := by
  have hgrant : ∀ x o, Upholds s (s.grantTo x o) := fun x o => by
    rw [grantTo_eq]
    exact (granting_upholds s x o _).trans (tellGranted_upholds _ x)
  unfold State.takeGrant
  split
  · split
    · exact hgrant _ _
    · exact .refl s
  · exact .refl s
  · exact .refl s

theorem requestCompleted_upholds (s : State) (p : Port) (g : Entry → Entry) :
    Upholds s (s.requestCompleted p g) := by
  unfold State.requestCompleted
  split
  · rename_i hstate
    exact (modRequests_upholds s p _).trans (endTeardownIfEmpty_upholds (by rwa [session_modRequests]))
  · exact (modRequests_upholds s p _).trans (present_upholds _ p)

theorem readCompleted_upholds (s : State) (p : Port) (o : Operation) (reports : List LineReport) :
    Upholds s (s.readCompleted p o reports) := by
  rw [readCompleted_eq]
  have hread : Upholds s { s with
      inFlight := none
      dram := s.dram.afterRead (dramLine o.frame o.firstLine) o.lineCount reports
      freeIndex := s.freeIndex + 1 } := upholds_of_ports rfl (.refl _)
  exact (hread.trans (readAccounted_quiet s o reports).upholds).trans (requestCompleted_upholds _ p _)

theorem writeCompleted_upholds (s : State) (p : Port) (o : Operation) (reports : List LineReport) :
    Upholds s (s.writeCompleted p o reports) := by
  have hwritten : Upholds s { s with inFlight := none, dram := s.dramWritten p o reports } :=
    upholds_of_ports rfl (.refl _)
  exact ((hwritten.trans (unpin_quiet _ o.frame).upholds).trans (modRequests_upholds _ p _)).trans
    (requestCompleted_upholds _ p _)

theorem zeroCompleted_upholds (s : State) (o : Operation) : Upholds s (s.zeroCompleted o) :=
  upholds_of_ports rfl (.refl _)

theorem holdExpired_upholds (s : State) (p : Port) : Upholds s (s.holdExpired p) := by
  unfold State.holdExpired
  simp only
  split
  · exact ((modTransmit_upholds s p _).trans (modTransmit_upholds _ p _)).trans (raiseNotice_upholds _ p _)
  · exact modTransmit_upholds s p _

theorem State.OffersInOrder.replayExpired {s : State} (h : s.OffersInOrder) (p : Port) :
    (s.replayExpired p).OffersInOrder := by
  unfold State.replayExpired
  split
  · exact h.upheld (modLink_upholds s p _)
  · exact h.loseLink p _

/-! ### One step -/

/-- A command that upholds what the records rest on. -/
theorem Keeps.upholding {i : Instr} {next : State → State} (hexec : ∀ s, exec i s = whenRunning s (next s))
    (hnext : ∀ s, Upholds s (next s)) : Keeps State.OffersInOrder i :=
  .of_running hexec fun s h => h.upheld (hnext s)

/-- A request whose acceptance upholds it. -/
theorem Keeps.accepting {i : Instr} {p : Port} {k : RequestKind} {f : RequestFrame} {accept : State → State}
    (hexec : ∀ s, exec i s = whenRunning s (s.requestArrives p k f accept))
    (haccept : ∀ s, Upholds s (accept s)) : Keeps State.OffersInOrder i :=
  .of_running hexec fun _ h => h.requestArrives fun u hu _ => hu.upheld (haccept u)

/-- A request that acts at acceptance. -/
theorem Keeps.answering {i : Instr} {p : Port} {k : RequestKind} {f : RequestFrame} {act : State → Answer}
    (hexec : ∀ s, exec i s = whenRunning s (s.requestArrives p k f fun t => t.acceptDone p k f act))
    (hact : ∀ s, s.OffersInOrder → s.refusalOf p k f = none → (act s).state.OffersInOrder) :
    Keeps State.OffersInOrder i :=
  .of_running hexec fun _ h => h.requestArrives fun u hu hpasses =>
    (hact u hu hpasses).upheld (enqueue_upholds _ p _)

theorem Keeps.answering_upholding {i : Instr} {p : Port} {k : RequestKind} {f : RequestFrame} {act : State → Answer}
    (hexec : ∀ s, exec i s = whenRunning s (s.requestArrives p k f fun t => t.acceptDone p k f act))
    (hact : ∀ s, Upholds s (act s).state) : Keeps State.OffersInOrder i :=
  .answering hexec fun s hs _ => hs.upheld (hact s)

/-- An administrative request. -/
theorem Keeps.administering {i : Instr} {p : Port} {k : RequestKind} {f : RequestFrame} {act : State → Answer}
    (hexec : ∀ s, exec i s = whenRunning s (s.requestArrives p k f fun t =>
      t.acceptDone p k f fun u => u.administrative p act))
    (hact : ∀ s, s.OffersInOrder → (act s).state.OffersInOrder) : Keeps State.OffersInOrder i :=
  .answering hexec fun s hs _ => hs.administrative (hact s hs)

theorem Keeps.administering_upholding {i : Instr} {p : Port} {k : RequestKind} {f : RequestFrame} {act : State → Answer}
    (hexec : ∀ s, exec i s = whenRunning s (s.requestArrives p k f fun t =>
      t.acceptDone p k f fun u => u.administrative p act))
    (hact : ∀ s, Upholds s (act s).state) : Keeps State.OffersInOrder i :=
  .administering hexec fun s hs => hs.upheld (hact s)

/-- The commands of the link, of the timers, of the memory channel and of the transmitter, and the requests. -/
theorem keeps_offersInOrder (i : Instr) : Keeps State.OffersInOrder i := by
  cases i with
  | deviceReset =>
    intro s t _ ht
    cases ht
    exact reset_offers.upheld (upholds_of_ports rfl (.refl _))
  | resetRelease a =>
    intro s t h ht
    cases ht
    split
    · exact h.upheld (upholds_of_ports rfl (.refl _))
    · exact h
  | receiverLockGained p =>
    refine .upholding (fun _ => rfl) fun s => ?_
    split
    · exact modLink_upholds s p _
    all_goals exact .refl s
  | receiverLockLost p =>
    refine .of_running (fun _ => rfl) fun s h => ?_
    split
    · exact h.loseLink p _
    · exact h.upheld (modLink_upholds s p _)
    · exact h.upheld (modLink_upholds s p _)
    · exact h
  | damagedFrame p bytes =>
    refine .upholding (fun _ => rfl) fun s => ?_
    split
    · exact .refl s
    · split
      · exact .refl s
      all_goals exact modLink_upholds s p _
  | linkHello p seen =>
    refine .of_running (fun _ => rfl) fun s h => ?_
    split
    · exact h
    · exact h.upheld (modLink_upholds s p _)
    · split
      · exact h.upheld (modLink_upholds s p _)
      · exact h
    · split
      · exact h.upheld (modLink_upholds s p _)
      · exact h.loseLink p _
  | linkAck p value hold =>
    refine .upholding (fun _ => rfl) fun s => ?_
    split
    · exact .refl s
    · exact .refl s
    · exact ((modLink_upholds s p _).trans (modLink_upholds _ p _)).trans (modTransmit_upholds _ p _)
    · exact (modLink_upholds s p _).trans (modTransmit_upholds _ p _)
  | linkNak p value =>
    refine .upholding (fun _ => rfl) fun s => ?_
    split
    · exact .refl s
    · exact .refl s
    · exact (modLink_upholds s p _).trans (modLink_upholds _ p _)
    · exact modLink_upholds s p _
  | unknownRequestKind p k f =>
    exact .upholding (fun _ => rfl) fun _ => receiveSequenced_upholds fun _ _ => refuse_upholds
  | openSession p f => exact .answering_upholding (fun _ => rfl) fun s => openSession_upholds s p
  | closeSession p f =>
    exact .accepting (fun _ => rfl) fun s =>
      (modSession_upholds fun _ => rfl).trans (acceptBarrier_upholds _ p _ f)
  | setOrder p f => exact .answering_upholding (fun _ => rfl) fun s => setOrder_upholds s p _
  | read p f => exact .accepting (fun _ => rfl) fun s => acceptRead_upholds s p f
  | write p f => exact .accepting (fun _ => rfl) fun s => acceptWrite_upholds s p f
  | fence p f => exact .accepting (fun _ => rfl) fun s => acceptBarrier_upholds s p _ f
  | alloc p f => exact .answering_upholding (fun _ => rfl) fun s => alloc_upholds s p _
  | release p f => exact .answering (fun _ => rfl) fun _ hs _ => hs.release p _
  | offer p f =>
    refine .answering (fun _ => rfl) fun s hs hpasses => hs.offer ?_ _
    rw [State.inSession, session_of_refusalOf_none hpasses]
    rfl
  | accept p f => exact .answering_upholding (fun _ => rfl) fun s => acceptOffer_upholds s p _
  | decline p f => exact .answering_upholding (fun _ => rfl) fun s => declineOffer_upholds s p _
  | withdraw p f => exact .answering_upholding (fun _ => rfl) fun s => withdrawOffer_upholds s p _
  | queryPort p f =>
    exact .answering_upholding (fun _ => rfl) fun s => (state_queryPort s p _).symm ▸ .refl s
  | queryPage p f =>
    exact .answering_upholding (fun _ => rfl) fun s => (state_queryPage s p _).symm ▸ .refl s
  | queryPool p f => exact .answering_upholding (fun _ => rfl) fun s => .refl s
  | queryFrame p f =>
    exact .answering_upholding (fun _ => rfl) fun s => (state_queryFrame s p _).symm ▸ .refl s
  | claimAdmin p f => exact .answering_upholding (fun _ => rfl) fun s => claimAdmin_upholds s p
  | handAdmin p f => exact .administering_upholding (fun _ => rfl) fun s => handAdmin_upholds s p _
  | defineRegion p f => exact .administering_upholding (fun _ => rfl) fun s => defineRegion_upholds s _
  | undefineRegion p f => exact .administering_upholding (fun _ => rfl) fun s => undefineRegion_upholds s _
  | onlineRegion p f => exact .administering_upholding (fun _ => rfl) fun s => onlineRegion_upholds s _
  | retireRegion p f => exact .administering_upholding (fun _ => rfl) fun s => retireRequest_upholds s _
  | setQuota p f => exact .administering_upholding (fun _ => rfl) fun s => setQuotaRequest_upholds s _
  | setWeight p f => exact .administering_upholding (fun _ => rfl) fun s => setWeight_upholds s _
  | setLimitOfferLife p f => exact .administering_upholding (fun _ => rfl) fun s => setOfferLife_upholds s _
  | setLimitHoldLimit p f => exact .administering_upholding (fun _ => rfl) fun s => setHoldLimit_upholds s _
  | setLimitErrorLimit p f => exact .administering_upholding (fun _ => rfl) fun s => setErrorLimit_upholds s _
  | setLimitReplayTimeout p f =>
    exact .administering_upholding (fun _ => rfl) fun s => setReplayTimeout_upholds s _
  | disablePort p f => exact .administering (fun _ => rfl) fun _ hs => hs.disablePort p _
  | enablePort p f => exact .administering_upholding (fun _ => rfl) fun s => enablePort_upholds s _
  | evictPort p f => exact .administering (fun _ => rfl) fun _ hs => hs.evictPort p _
  | grant => exact .upholding (fun _ => rfl) takeGrant_upholds
  | readLinesCompletion reports =>
    refine .upholding (fun _ => rfl) fun s => ?_
    split
    · split
      · exact readCompleted_upholds s _ _ _
      all_goals exact .refl s
    · exact .refl s
  | writeLinesCompletion reports =>
    refine .upholding (fun _ => rfl) fun s => ?_
    split
    · split
      · exact writeCompleted_upholds s _ _ _
      all_goals exact .refl s
    · exact .refl s
  | zeroLinesCompletion =>
    refine .upholding (fun _ => rfl) fun s => ?_
    split
    · split
      · exact zeroCompleted_upholds s _
      all_goals exact .refl s
    · exact .refl s
  | transmitChoice p => exact .of_running (fun _ => rfl) fun _ h => h.transmitNew p
  | retransmit p =>
    refine .upholding (fun _ => rfl) fun s => ?_
    split
    · split
      · exact (modLink_upholds s p _).trans (send_upholds _ p _)
      · exact .refl s
    · exact .refl s
  | sendLinkHello p =>
    refine .upholding (fun _ => rfl) fun s => ?_
    simp only
    split
    · exact (modLink_upholds s p _).trans (send_upholds _ p _)
    · exact .refl s
  | sendLinkNak p =>
    refine .upholding (fun _ => rfl) fun s => ?_
    split
    · exact (modLink_upholds s p _).trans (send_upholds _ p _)
    all_goals exact .refl s
  | sendLinkAck p =>
    refine .upholding (fun _ => rfl) fun s => ?_
    split
    · exact (modLink_upholds s p _).trans (send_upholds _ p _)
    all_goals exact .refl s
  | helloTimerExpiry p =>
    refine .upholding (fun _ => rfl) fun s => ?_
    split
    · exact (reachTime_upholds s _).trans (modLink_upholds _ p _)
    · exact .refl s
  | replayTimerExpiry p =>
    refine .of_running (fun _ => rfl) fun s h => ?_
    split
    · exact (h.upheld (reachTime_upholds s _)).replayExpired p
    · exact h
  | holdTimerExpiry p =>
    refine .upholding (fun _ => rfl) fun s => ?_
    split
    · exact (reachTime_upholds s _).trans (holdExpired_upholds _ p)
    · exact .refl s
  | offerExpiry n =>
    refine .upholding (fun _ => rfl) fun s => ?_
    split
    · exact (((reachTime_upholds s _).trans (removeOffer_upholds _ n)).trans (raiseNotice_upholds _ _ _)).trans
        (raiseNotice_upholds _ _ _)
    · exact .refl s

/-- Settles O57: every command keeps the offer table in order, and neither time nor the waiting commands matter to it. -/
theorem stepKeepsOffersInOrder : Obligations.StepKeepsOffersInOrder := fun _ _ hstep hs =>
  step_keeps keeps_offersInOrder (fun _ _ h => h.upheld (upholds_of_ports rfl (.refl _)))
    (fun _ _ h => h.upheld (upholds_of_ports rfl (.refl _))) hstep hs

end Sys2Proof.Machine
end

section
/-! SUPPORT. Request frames at the checks of acceptance (R78 to R86), the new entry's place and number (R87 to R90), and
SET_ORDER (R95). -/

namespace Sys2Proof.Machine

/-! ### Refusals (R78, R86, R147) -/

/-- The class of a frame is its flag bit 0 (R83). -/
theorem frameClass_eq (f : RequestFrame) :
    frameClass f = if f.flags.getLsbD 0 then .expedited else .ordinary := by
  have hflag : ∀ x : Byte, (x &&& classFlag == classFlag) = x.getLsbD 0 := by decide
  rw [frameClass, classOf, hflag]

/-- Settles O13: a request of each kind arrives the same way, and a frame of unknown kind is refused MALFORMED. -/
theorem refusedFrameQueuesARefusal : Obligations.RefusedFrameQueuesARefusal := by
  intro s p f hrunning hup hseq hroom refused
  have hrefused : ∀ reason, refused reason =
      (s.modTransmit p fun t =>
        { t with
          refusals :=
            t.refusals ++
              [{ reason := reason, seq := f.seq, mark := f.mark, cls := frameClass f }] }).modLink p
        fun l => l.taken f.seq := fun reason => by
    rw [frameClass_eq]
    rfl
  refine ⟨fun k reason hreason => ?_, fun code => ?_⟩
  · obtain ⟨accept, hexec, -⟩ := exec_request p f k
    rw [hexec, whenRunning_high hrunning, requestArrives_refused hup hseq hreason hroom, hrefused]
  · refine (whenRunning_high hrunning _).trans ?_
    rw [receive_inSequence _ hup hseq, hrefused]
    simp only [State.refuse, Config.refusalPlaces, hroom, if_true]

/-- A frame that is not taken leaves one LINK_NAK for its gap (R166, R167). -/
theorem modLink_outOfSequence (s : State) (p : Port) :
    s.modLink p LinkUnit.outOfSequence =
      if (s.port p).link.nakFlag then s
      else s.modLink p fun l => { l with pendingNak := some l.expected, nakFlag := true } := by
  by_cases hnak : (s.port p).link.nakFlag = true
  · rw [if_pos hnak]
    exact modLink_id s (if_pos hnak)
  · rw [if_neg hnak]
    exact modLink_congr s (if_neg hnak)

/-- Settles O14: without room a refusal is not made and the frame is out of sequence; what passes the checks needs no
refusal. -/
theorem fullRefusalQueueLeavesTheFrame : Obligations.FullRefusalQueueLeavesTheFrame := by
  intro s p f hrunning hup hseq hfull left
  have hroom : ¬(s.port p).transmit.refusals.length < 8 := Nat.not_lt.2 hfull
  refine ⟨fun k hfails => ?_, fun code => ?_, fun k hpasses => ?_⟩
  · obtain ⟨reason, hreason⟩ := Option.ne_none_iff_exists'.1 hfails
    obtain ⟨accept, hexec, -⟩ := exec_request p f k
    rw [hexec, whenRunning_high hrunning, requestArrives_notTaken hup hseq hreason hroom,
      modLink_outOfSequence]
  · refine (whenRunning_high hrunning _).trans ?_
    rw [receive_inSequence _ hup hseq]
    simp only [State.refuse, Config.refusalPlaces, hroom, if_false]
    rw [modLink_outOfSequence]
  · obtain ⟨accept, hexec, -⟩ := exec_request p f k
    have haccepts : s.Accepts p k f := ⟨hrunning, hup, hseq, hpasses⟩
    exact ⟨_, (hexec s).trans (haccepts.answers accept), by simp [LinkUnit.taken]⟩

/-! ### The checks in their order (R79 to R85) -/

/-- Which kinds may travel in either class (R83). -/
theorem eitherClass_iff (k : RequestKind) :
    eitherClass k = true ↔ k ∈ [.read, .write, .fence, .queryPort, .queryPage, .queryPool, .queryFrame] := by
  cases k <;> decide

/-- The checks of a frame that passed those of its form and of the session (R83 to R85). -/
def State.refusalByClass (s : State) (p : Port) (k : RequestKind) (f : RequestFrame) : Option RefusalReason :=
  if frameClass f = .expedited ∧ eitherClass k = false then some .classRefused
  else if s.windowFull p (frameClass f) then some .windowFull
  else if s.dataFull p k f then some .dataFull
  else none

/-- The checks of the session (R81, R82), and the others behind them. -/
theorem refusalAfterDecode_eq (s : State) (p : Port) (k : RequestKind) (f : RequestFrame) :
    s.refusalAfterDecode p k f =
      match (s.port p).session.state with
      | .disabled => some .portDisabled
      | .closed => if k = .openSession then s.refusalByClass p k f else some .notOpen
      | .teardown => some (if k = .openSession then .notReady else .notOpen)
      | .opened => if k = .openSession then some .alreadyOpen else s.refusalByClass p k f
      | .closing => some (if k = .openSession then .alreadyOpen else .closing) := by
  unfold State.refusalAfterDecode State.refusalByClass
  by_cases hk : k = .openSession
  · cases hstate : (s.port p).session.state <;> simp [hk, sessionRefusal]
  · have hother : (k == RequestKind.openSession) = false := by simpa using hk
    cases hstate : (s.port p).session.state <;> simp [hk, hother, sessionRefusal]

/-- A WRITE through a writable page, within one block, needs more write lines than are free (R85). -/
theorem dataFull_iff (s : State) (p : Port) (k : RequestKind) (f : RequestFrame) :
    s.dataFull p k f = true ↔ k = .write ∧
      (∃ m, s.slotOfAddress p (field f.payload 0 4) = some m ∧ m.rights = .rw) ∧
      InBlock (field f.payload 0 4) (field f.payload 4 2) ∧
      (s.port p).requests.freeLines <
        (field f.payload 0 4 % 65536 + field f.payload 4 2 - 1) / 32 - field f.payload 0 4 % 65536 / 32 + 1 := by
  unfold State.dataFull
  by_cases hk : k = .write
  · rw [if_pos hk, dataAddress, dataLength]
    cases hslot : s.slotOfAddress p (field f.payload 0 4) with
    | none => simp [translate_unmapped hslot]
    | some m =>
      cases hrights : m.rights with
      | ro => simp [translate_readOnly hslot hrights, hrights]
      | rw =>
        by_cases hblock : InBlock (field f.payload 0 4) (field f.payload 4 2)
        · simp [translate_inBlock hslot (fun _ => hrights) hblock, translationOf, hk, hrights, hblock]
        · simp [translate_crosses hslot (fun _ => hrights) hblock, hblock]
  · simp [hk]

/-- Settles O15: the form, then the session, then class, window and write lines. -/
theorem checksOfAcceptanceInOrder : Obligations.ChecksOfAcceptanceInOrder := by
  intro s p k f session cls entries window either first last linesShort
  have hcls : frameClass f = cls := frameClass_eq f
  have heither : eitherClass k = false ↔ ¬either := by rw [← Bool.not_eq_true, eitherClass_iff]
  have hwindow : s.windowFull p cls = true ↔ window ≤ entries := by
    have hof : windowOf cls = window := by cases h : cls <;> simp [window, h, windowOf] <;> rfl
    rw [State.windowFull, decide_eq_true_iff, hof]
    rfl
  have hlines : s.dataFull p k f = true ↔ linesShort := dataFull_iff s p k f
  refine ⟨fun hform => by rw [State.refusalOf, if_neg (by simp [hform])], fun hform => ?_⟩
  have hchecks : s.refusalOf p k f = s.refusalAfterDecode p k f := if_pos hform
  have hclassed : (cls = .expedited ∧ eitherClass k = false) ↔ (cls = .expedited ∧ ¬either) :=
    and_congr_right fun _ => heither
  have hsession : (s.port p).session.state = session := rfl
  rw [hchecks]
  refine ⟨fun h => ?_, fun h hk => ?_, fun h => ?_, fun h hk => ?_, fun h hk => ?_, fun h => ?_⟩
  · rw [refusalAfterDecode_eq, hsession, h]
  · rw [refusalAfterDecode_eq, hsession, h]; exact if_neg hk
  · rw [refusalAfterDecode_eq, hsession, h]
  · rw [refusalAfterDecode_eq, hsession]
    rcases h with h | h
    · rw [h]; exact if_pos hk
    · rw [h]; exact congrArg some (if_pos hk)
  · rw [refusalAfterDecode_eq, hsession, h]; exact congrArg some (if_neg hk)
  · have hbehind : s.refusalAfterDecode p k f = s.refusalByClass p k f := by
      rw [refusalAfterDecode_eq, hsession]
      rcases h with ⟨h, hk⟩ | ⟨h, hk⟩
      · rw [h]; exact if_pos hk
      · rw [h]; exact if_neg hk
    rw [hbehind, State.refusalByClass, hcls]
    refine ⟨fun hclass => if_pos (hclassed.2 hclass), fun hclass => ?_⟩
    rw [if_neg (mt hclassed.1 hclass)]
    refine ⟨fun hfull => if_pos (hwindow.2 hfull), fun hroom hshort => ?_, fun hroom hshort => ?_⟩
    · rw [if_neg (mt hwindow.1 (Nat.not_le.2 hroom)), if_pos (hlines.2 hshort)]
    · rw [if_neg (mt hwindow.1 (Nat.not_le.2 hroom)), if_neg (mt hlines.1 hshort)]

/-! ### The new entry (R87 to R90) -/

/-- What presents next is decided by the entries, the ordering mode and the session. -/
theorem entries_present_congr {r r' : RequestUnit} (hentries : r'.entries = r.entries) (hmode : r'.mode = r.mode)
    (st : SessionState) : (r'.present st).entries = (r.present st).entries := by
  unfold RequestUnit.present RequestUnit.presentedEntry
  rw [hentries, hmode]
  split
  · exact hentries
  · split
    · rfl
    · exact hentries

/-- The class of a frame by its whole flags byte. -/
theorem frameClass_of_flags (f : RequestFrame) :
    (f.flags = 1 → frameClass f = .expedited) ∧ (f.flags = 0 → frameClass f = .ordinary) := by
  constructor <;> intro h <;> rw [frameClass, h] <;> rfl

/-- Settles O17: the shape of every acceptance, whose entry has the number that its class counter stands at. -/
theorem acceptedRequestNumbered : Obligations.AcceptedRequestNumbered := by
  intro s p k f haccepts hk
  obtain ⟨accept, hexec, haccept⟩ := exec_request p f k
  obtain ⟨u, e, htaken, hacted, hkind, hcls, hmark, hnumber, hstate, -, -⟩ := (haccept s).shape
  have hcounters := hacted.counters hk
  have hpresent := present_keeps ((u.port p).requests.accepted e) (u.port p).session.state
  obtain ⟨hexpedited, hordinary, -, hmode, -, -⟩ := hpresent
  have hrequests : (((accept s).modLink p fun l => l.taken f.seq).port p).requests =
      ((u.port p).requests.accepted e).present (u.port p).session.state := by
    rw [requests_modLink, htaken, requests_enqueue]
  have hsession : (((accept s).modLink p fun l => l.taken f.seq).port p).session =
      (u.port p).session := by
    rw [session_modLink, htaken, session_enqueue]
  refine ⟨_, e, (hexec s).trans (haccepts.answers accept), ?_, hstate, hkind, hmark, fun hflags => ?_,
    fun hflags => ?_⟩
  · rw [hrequests, hsession, ← hacted.entries]
    refine entries_present_congr ?_ ?_ _
    · rfl
    · exact hmode.symm
  · have hclass : e.cls = .expedited := hcls.trans ((frameClass_of_flags f).1 hflags)
    refine ⟨hclass, ?_, ?_, ?_⟩
    · rw [hnumber, ← hcls, hclass]; exact hcounters .expedited
    · rw [hrequests, hexpedited, RequestUnit.accepted, hclass]
      exact congrArg (· + 1) (hcounters .expedited)
    · rw [hrequests, hordinary, RequestUnit.accepted, hclass]
      exact hcounters .ordinary
  · have hclass : e.cls = .ordinary := hcls.trans ((frameClass_of_flags f).2 hflags)
    refine ⟨hclass, ?_, ?_, ?_⟩
    · rw [hnumber, ← hcls, hclass]; exact hcounters .ordinary
    · rw [hrequests, hordinary, RequestUnit.accepted, hclass]
      exact congrArg (· + 1) (hcounters .ordinary)
    · rw [hrequests, hexpedited, RequestUnit.accepted, hclass]
      exact hcounters .expedited

/-! ### SET_ORDER (R95) -/

/-- A request that passed the checks is well formed (R80). -/
theorem State.Accepts.wellFormed {s : State} {p : Port} {k : RequestKind} {f : RequestFrame}
    (h : s.Accepts p k f) : wellFormedRequest k f = true := by
  by_contra hform
  have hpasses := h.passes
  rw [State.refusalOf, if_neg hform] at hpasses
  cases hpasses

/-- A SET_ORDER of good form names a mode, and acts by its burst limit (R95, R203). -/
theorem setOrder_eq {s : State} {p : Port} {f : RequestFrame} (h : wellFormedRequest .setOrder f = true) :
    s.setOrder p f.payload =
      if 1 ≤ field f.payload 1 1 ∧ field f.payload 1 1 ≤ 16 then
        .ok
          (s.modRequests p fun r =>
            { r with
              mode := if field f.payload 0 1 = 0 then .arrival else .priority
              burstLimit := field f.payload 1 1 })
          (.order (if field f.payload 0 1 = 0 then .arrival else .priority) (field f.payload 1 1))
      else .failed s .badValue := by
  have hvalue : (modeOf (field f.payload 0 1)).isNone = false := by
    simpa [reservedValue] using (Bool.and_eq_true_iff.1 h).2
  have hmode : modeOf (field f.payload 0 1) =
      some (if field f.payload 0 1 = 0 then .arrival else .priority) := by
    unfold modeOf at hvalue ⊢
    by_cases h0 : field f.payload 0 1 = 0
    · simp [h0]
    · by_cases h1 : field f.payload 0 1 = 1
      · simp [h1]
      · simp [h0, h1] at hvalue
  simp only [State.setOrder, hmode]

/-- Settles O20: SET_ORDER by its burst limit. -/
theorem setOrderSetsModeAndBurstLimit : Obligations.SetOrderSetsModeAndBurstLimit := by
  intro s p f haccepts mode limit
  obtain ⟨t, hexec, hans, hqueued⟩ := haccepts.acting (by decide) (act := fun u => u.setOrder p f.payload)
    (setOrder_acted s p _)
  rw [setOrder_eq haccepts.wellFormed] at hans hqueued
  refine ⟨t, hexec, fun hgood => ?_, fun hbad => ?_⟩
  · rw [if_pos hgood] at hans hqueued
    exact ⟨hans, hqueued⟩
  · rw [if_neg hbad] at hans hqueued
    exact ⟨hans, hqueued⟩

end Sys2Proof.Machine
end

section
/-! SUPPORT. The lines of a WRITE_LINES operation (R128), and its completion for a port (R94, R98, R110, R131). -/

namespace Sys2Proof.Machine

/-! ### The named bytes (R128) -/

/-- The address is one of those the data stand at. -/
def Named (start : Nat) (data : List Byte) (a : Nat) : Prop :=
  start ≤ a ∧ a < start + data.length

theorem namedByte_of_named {start : Nat} {data : List Byte} {a : Nat} (h : Named start data a) :
    namedByte start data a = data[a - start]? :=
  if_pos h.1

theorem isSome_namedByte_iff (start : Nat) (data : List Byte) (a : Nat) :
    (namedByte start data a).isSome = true ↔ Named start data a := by
  unfold namedByte Named
  by_cases h : start ≤ a
  · rw [if_pos h]
    simp only [isSome_getElem?]
    omega
  · simp [h]

theorem namedByte_of_not_named {start : Nat} {data : List Byte} {a : Nat} (h : ¬Named start data a) :
    namedByte start data a = none := by
  rw [← isSome_namedByte_iff] at h
  simpa using h

/-- A line is not named in full: the data leave one of its bytes out. -/
theorem fullyNamed_eq_false_iff (start : Nat) (data : List Byte) (line : Nat) :
    fullyNamed start data line = false ↔ ∃ a, a / 32 = line ∧ ¬Named start data a := by
  have hline : ∀ a, a ∈ lineAddresses line ↔ a / 32 = line := fun a => by
    simp only [lineAddresses, Config.lineBytes, List.mem_map, List.mem_range]
    exact ⟨fun ⟨i, hi, ha⟩ => by omega, fun ha => ⟨a % 32, by omega, by omega⟩⟩
  rw [← Bool.not_eq_true, fullyNamed, List.all_eq_true]
  simp only [isSome_namedByte_iff, hline, not_forall, exists_prop]

/-! ### One line (R128) -/

/-- The byte at an address of a written line, by what was found in the line. -/
def Dram.writtenByte (d : Dram) (start : Nat) (data : List Byte) (a : Nat) (found : LineReport) :
    Option Byte :=
  match namedByte start data a, found with
  | some b, _ => some b
  | none, .clean => Sparse.get d.bytes a
  | none, .corrected => Sparse.get d.bytes a
  | none, .unseen bytes => bytes[a % Config.lineBytes]?.or (Sparse.get d.bytes a)
  | none, .uncorrectable => none

theorem Dram.mergedLine_eq (d : Dram) (line start : Nat) (data : List Byte) (found : LineReport) :
    d.mergedLine line start data found =
      (lineAddresses line).map fun a => d.writtenByte start data a found := rfl

/-- The bytes after one written line. -/
theorem Dram.get_writeLine {d : Dram} (h : d.wf = true) (line start a : Nat) (data : List Byte)
    (report : LineReport) :
    Sparse.get (d.writeLine line start data report).bytes a =
      if a / 32 = line ∧ d.isFitted line = true then d.writtenByte start data a (d.found line report)
      else Sparse.get d.bytes a := by
  by_cases hline : a / 32 = line
  · by_cases hfit : d.isFitted line = true
    · have hin : line * 32 ≤ a ∧ a < line * 32 + 32 := by omega
      have haddress : line * 32 + (a - line * 32) = a := by omega
      have hsmall : a - line * 32 < 32 := by omega
      rw [if_pos ⟨hline, hfit⟩, Dram.writeLine, if_pos hfit, Dram.bytes_setFlaw,
        Dram.get_setBytes (Dram.bytes_wf h), Dram.mergedLine_eq,
        if_pos (by simpa [lineAddresses, Config.lineBytes] using hin)]
      simp [lineAddresses, Config.lineBytes, hsmall, haddress]
    · rw [if_neg fun hboth => hfit hboth.2, Dram.writeLine, if_neg hfit]
  · rw [if_neg fun hboth => hline hboth.1]
    exact Dram.get_writeLine_outside (Dram.bytes_wf h) line start data report a
      (by simp only [Config.lineBytes]; omega)

/-- The flaw of a line after it is written. -/
def Dram.writtenFlaw (d : Dram) (start : Nat) (data : List Byte) (line : Nat) (report : LineReport) :
    Option LineFlaw :=
  if fullyNamed start data line = false ∧ d.found line report = .uncorrectable then some .marker else none

/-- A line is found the same, and written the same, after another was written before it. -/
theorem Dram.written_writeLine {d : Dram} (h : d.wf = true) {line x : Nat} (hx : x ≠ line) (start : Nat)
    (data : List Byte) (first report : LineReport) :
    (d.writeLine line start data first).found x report = d.found x report ∧
    (∀ found, ∀ a, a / 32 = x →
      (d.writeLine line start data first).writtenByte start data a found =
        d.writtenByte start data a found) := by
  have hflaw : (d.writeLine line start data first).flaw x = d.flaw x := by
    rw [Dram.flaw_writeLine h, if_neg fun hboth => hx hboth.1]
  refine ⟨?_, fun found a ha => ?_⟩
  · unfold Dram.found
    rw [hflaw, Dram.isFitted_of_fitted (Dram.fitted_writeLine d line start data first)]
  · unfold Dram.writtenByte
    rw [Dram.get_writeLine h, if_neg fun hboth => hx (ha.symm.trans hboth.1)]

/-! ### The lines of the operation -/

/-- Each fitted line of a WRITE_LINES operation is written with its own report, and nothing else changes. -/
theorem Dram.writeLines_spec {d : Dram} (h : d.wf = true) (start : Nat) (data : List Byte)
    (reports : List LineReport) (first count : Nat) :
    (∀ l, (d.writeLines start data reports first count).flaw l =
      if (first ≤ l ∧ l < first + count) ∧ d.isFitted l = true then
        d.writtenFlaw start data l (reports.getD (l - first) .clean)
      else d.flaw l) ∧
    ∀ a, Sparse.get (d.writeLines start data reports first count).bytes a =
      if (first ≤ a / 32 ∧ a / 32 < first + count) ∧ d.isFitted (a / 32) = true then
        d.writtenByte start data a (d.found (a / 32) (reports.getD (a / 32 - first) .clean))
      else Sparse.get d.bytes a := by
  induction count generalizing d reports first with
  | zero =>
    refine ⟨fun l => ?_, fun a => ?_⟩
    · rw [if_neg (by omega)]; rfl
    · rw [if_neg (by omega)]; rfl
  | succ n ih =>
    obtain ⟨hflaw, hbyte⟩ := ih (Dram.wf_writeLine h first start data (reports.getD 0 .clean))
      (reports.drop 1) (first + 1)
    have hfit := Dram.isFitted_of_fitted (Dram.fitted_writeLine d first start data (reports.getD 0 .clean))
    have hreport : ∀ l, first + 1 ≤ l →
        (reports.drop 1).getD (l - (first + 1)) .clean = reports.getD (l - first) .clean := fun l hl => by
      simp only [List.getD_eq_getElem?_getD, List.getElem?_drop,
        show 1 + (l - (first + 1)) = l - first by omega]
    refine ⟨fun l => ?_, fun a => ?_⟩
    · rw [Dram.writeLines, hflaw, Dram.flaw_writeLine h, hfit]
      refine Eq.trans ?_ (ite_lines_succ (fun l => d.isFitted l = true) first n l _ _)
      by_cases hin : (first + 1 ≤ l ∧ l < first + 1 + n) ∧ d.isFitted l = true
      · rw [if_pos hin, if_pos hin, Dram.writtenFlaw, hreport l hin.1.1,
          (Dram.written_writeLine h (by omega) start data _ _).1]
        rfl
      · rw [if_neg hin, if_neg hin]
        by_cases hl : l = first ∧ d.isFitted first = true
        · rw [if_pos hl, if_pos hl, Dram.writtenFlaw, hl.1, Nat.sub_self]
        · rw [if_neg hl, if_neg hl]
    · rw [Dram.writeLines, hbyte, Dram.get_writeLine h, hfit]
      refine Eq.trans ?_ (ite_lines_succ (fun l => d.isFitted l = true) first n (a / 32) _ _)
      by_cases hin : (first + 1 ≤ a / 32 ∧ a / 32 < first + 1 + n) ∧ d.isFitted (a / 32) = true
      · have hkept := Dram.written_writeLine h (line := first) (x := a / 32) (by omega) start data
          (reports.getD 0 .clean) (reports.getD (a / 32 - first) .clean)
        rw [if_pos hin, if_pos hin, hreport _ hin.1.1, hkept.1, hkept.2 _ a rfl]
      · rw [if_neg hin, if_neg hin]
        by_cases hl : a / 32 = first ∧ d.isFitted first = true
        · rw [if_pos hl, if_pos hl, hl.1, Nat.sub_self]
        · rw [if_neg hl, if_neg hl]

/-- A written line's byte: the named one; else none where the line could not be read, and else the old one but under an
error that passed unseen. -/
theorem Dram.writtenByte_found (d : Dram) (start : Nat) (data : List Byte) (a : Nat) (report : LineReport) :
    (Named start data a → d.writtenByte start data a (d.found (a / 32) report) = data[a - start]?) ∧
    (¬Named start data a → d.Unreadable (a / 32) report →
      d.writtenByte start data a (d.found (a / 32) report) = none) ∧
    (¬Named start data a → ¬d.Unreadable (a / 32) report → (∀ bytes, report ≠ .unseen bytes) →
      d.writtenByte start data a (d.found (a / 32) report) = Sparse.get d.bytes a) := by
  refine ⟨fun hnamed => ?_, fun hnot hbad => ?_, fun hnot hgood hseen => ?_⟩
  · obtain ⟨b, hb⟩ := Option.isSome_iff_exists.1 ((isSome_namedByte_iff start data a).2 hnamed)
    rw [← namedByte_of_named hnamed]
    unfold Dram.writtenByte
    rw [hb]
  · unfold Dram.writtenByte
    rw [namedByte_of_not_named hnot, (Dram.found_uncorrectable_iff d _ _).2 hbad]
  · unfold Dram.writtenByte
    rw [namedByte_of_not_named hnot]
    cases hfound : d.found (a / 32) report with
    | clean => rfl
    | corrected => rfl
    | uncorrectable => exact absurd ((Dram.found_uncorrectable_iff d _ _).1 hfound) hgood
    | unseen bytes => exact absurd ((Dram.found_unseen_iff d _ _ bytes).1 hfound).2 (hseen bytes)

/-- A written line has the marker exactly where it could not be read and is not named in full. -/
theorem Dram.writtenFlaw_eq (d : Dram) (start : Nat) (data : List Byte) (line : Nat) (report : LineReport) :
    (d.Unreadable line report → (∃ a, a / 32 = line ∧ ¬Named start data a) →
      d.writtenFlaw start data line report = some .marker) ∧
    (¬(d.Unreadable line report ∧ ∃ a, a / 32 = line ∧ ¬Named start data a) →
      d.writtenFlaw start data line report = none) := by
  rw [← Dram.found_uncorrectable_iff, ← fullyNamed_eq_false_iff]
  exact ⟨fun hbad hpart => if_pos ⟨hpart, hbad⟩, fun h => if_neg fun hboth => h hboth.symm⟩

/-! ### The completion -/

/-- The state that a WRITE_LINES completion hands to the port: the channel IDLE, the lines written, the frame unpinned. -/
def State.writeUnpinned (s : State) (o : Operation) (d : Dram) : State :=
  ({ s with inFlight := none, dram := d } : State).unpin o.frame

theorem writeUnpinned_quiet (s : State) (o : Operation) (d : Dram) :
    Quiet { s with inFlight := none, dram := d } (s.writeUnpinned o d) :=
  unpin_quiet _ _

theorem writeCompleted_eq (s : State) (p : Port) (o : Operation) (reports : List LineReport) :
    s.writeCompleted p o reports =
      ((s.writeUnpinned o (s.dramWritten p o reports)).modRequests p fun r =>
        r.freeWriteLines o.lineCount).requestCompleted p Entry.writeDone := rfl

theorem dramWritten_eq {s : State} {p : Port} {older younger : List Entry} {e : Entry} {tr : Translation}
    {data : List Byte} (hentries : (s.port p).requests.entries = older ++ e :: younger)
    (he : e.state = .inMemory) (hold : ∀ x ∈ older, x.state ≠ .inMemory) (htr : e.translation = some tr)
    (hdata : e.writeData = some data) (o : Operation) (reports : List LineReport) :
    s.dramWritten p o reports = s.dram.writeLines (dramAddress tr.frame tr.firstByte) data reports
      (dramLine o.frame o.firstLine) o.lineCount := by
  have hentry : (s.port p).requests.memoryEntry = some e := by
    rw [RequestUnit.memoryEntry, hentries]
    exact find?_first (by simp [Entry.inMem, he]) fun x hx => by simp [Entry.inMem, hold x hx]
  simp only [State.dramWritten, hentry, htr, hdata]

theorem reservedLines_present (r : RequestUnit) (st : SessionState) :
    (r.present st).reservedLines = r.reservedLines := by
  obtain ⟨-, -, hlines, -⟩ := present_keeps r st
  exact hlines

theorem requests_endTeardownIfEmpty (s : State) (p q : Port) :
    ((s.endTeardownIfEmpty p).port q).requests = (s.port q).requests := by
  unfold State.endTeardownIfEmpty
  split
  · exact entries_endTeardown s p q
  · rfl

section
variable {s : State} {p : Port} {older younger : List Entry} {e : Entry}

/-- In TEARDOWN the lines of the discarded WRITE are freed with its entry. -/
theorem freeLines_requestCompleted_teardown (n : Nat) (g : Entry → Entry)
    (hstate : (s.port p).session.state = .teardown)
    (hentries : (s.port p).requests.entries = older ++ e :: younger) (he : e.state = .inMemory)
    (hold : ∀ x ∈ older, x.state ≠ .inMemory) :
    (s.modRequests p fun r => r.freeWriteLines n).requestCompleted p g =
      (s.modRequests p fun r =>
        { r with entries := older ++ younger, reservedLines := r.reservedLines - n }).endTeardownIfEmpty p := by
  rw [requestCompleted_teardown (e := e) (older := older) (younger := younger) g]
  · rw [State.discarding]
    exact congrArg (State.endTeardownIfEmpty · p) (modPort_modPort s p _ _)
  · rwa [session_modRequests]
  · rw [requests_modRequests_same]; exact hentries
  · exact he
  · exact hold

/-- Outside TEARDOWN they are freed, and the entry is told. -/
theorem freeLines_requestCompleted_running (n : Nat) (g : Entry → Entry)
    (hstate : (s.port p).session.state ≠ .teardown)
    (hentries : (s.port p).requests.entries = older ++ e :: younger) (he : e.state = .inMemory)
    (hold : ∀ x ∈ older, x.state ≠ .inMemory) :
    (s.modRequests p fun r => r.freeWriteLines n).requestCompleted p g = s.modRequests p fun r =>
      ({ r with
          reservedLines := r.reservedLines - n
          entries := barrierStep true (older ++ g e :: younger) }).present (s.port p).session.state := by
  rw [requestCompleted_running (e := e) (older := older) (younger := younger) g]
  · rw [session_modRequests]
    exact modPort_modPort s p _ _
  · rwa [session_modRequests]
  · rw [requests_modRequests_same]; exact hentries
  · exact he
  · exact hold

end

/-- Settles O46: the lines one by one, and the entry by the port's session. -/
theorem writeCompletionStoresTheNamedBytes : Obligations.WriteCompletionStoresTheNamedBytes := by
  intro s p o reports older younger e tr data hrunning hcanonical hflight hparticipant hkind hentries he hold
    htr hdata first covered start named report bad
  have hexec : exec (.writeLinesCompletion reports) s = .next (s.writeCompleted p o reports) := by
    refine (whenRunning_high hrunning _).trans ?_
    simp only [hflight, hparticipant, hkind]
  have hwf := Canonical.dram_wf hcanonical
  obtain ⟨d, hd⟩ : ∃ d, s.dramWritten p o reports = d := ⟨_, rfl⟩
  have hcompleted := writeCompleted_eq s p o reports
  have hquiet := writeUnpinned_quiet s o d
  rw [hd] at hcompleted
  have honly : OnlyAt p (s.writeUnpinned o d) (s.writeCompleted p o reports) := by
    rw [hcompleted]
    exact (OnlyAt.modRequests _ p _).trans (requestCompleted_onlyAt _ p _)
  have hrest := hquiet.settles.rest.trans honly.rest
  have hdram := hrest.dram
  have hlines : d = s.dram.writeLines start data reports first o.lineCount :=
    hd.symm.trans (dramWritten_eq hentries he hold htr hdata o reports)
  obtain ⟨hflaw, hbyte⟩ := Dram.writeLines_spec hwf start data reports first o.lineCount
  rw [← hlines] at hflaw hbyte
  have hsession : ((s.writeUnpinned o d).port p).session = (s.port p).session :=
    (hquiet.settles.port p).session
  have hrequests : ((s.writeUnpinned o d).port p).requests = (s.port p).requests :=
    (hquiet.settles.port p).requests
  have hbad : ∀ l, s.dram.isFitted l = true → (bad l ↔ s.dram.Unreadable l (report l)) := fun l hfit => by
    simp only [Dram.Unreadable, hfit, Bool.true_eq_false, false_or]
    rfl
  have hteardown : (s.port p).session.state = .teardown → s.writeCompleted p o reports =
      ((s.writeUnpinned o d).modRequests p fun r => { r with
        entries := older ++ younger, reservedLines := r.reservedLines - o.lineCount }).endTeardownIfEmpty p :=
    fun hstate => hcompleted.trans (freeLines_requestCompleted_teardown _ _ (by rwa [hsession])
      (by rwa [hrequests]) he hold)
  have hopen : (s.port p).session.state ≠ .teardown → s.writeCompleted p o reports =
      (s.writeUnpinned o d).modRequests p fun r => ({ r with
        reservedLines := r.reservedLines - o.lineCount
        entries := barrierStep true (older ++ e.writeDone :: younger) }).present (s.port p).session.state :=
    fun hstate => by
      have hfreed := hcompleted.trans (freeLines_requestCompleted_running o.lineCount Entry.writeDone
        (by rwa [hsession]) (by rwa [hrequests]) he hold)
      rwa [hsession] at hfreed
  refine ⟨_, hexec, hrest.inFlight, hrest.scheduler, hrest.now, ?_, fun a ha => ?_, fun l hl => ?_,
    fun a hcovered hfit => ?_, fun l hcovered hfit => ?_, fun q hq => ⟨?_, ?_, ?_, ?_⟩, ?_,
    honly.share.trans hquiet.share, honly.role.trans hquiet.settles.role, ?_, ?_⟩
  · rw [hdram]
    exact (congrArg Dram.fitted hlines).trans (Dram.fitted_writeLines _ _ _ _ _ _)
  · rw [hdram]
    refine (hbyte a).trans (if_neg fun hboth => ha.elim (· hboth.1) fun hnot => ?_)
    rw [hnot] at hboth
    exact absurd hboth.2 (by decide)
  · rw [hdram]
    refine (hflaw l).trans (if_neg fun hboth => hl.elim (· hboth.1) fun hnot => ?_)
    rw [hnot] at hboth
    exact absurd hboth.2 (by decide)
  · rw [hbad _ hfit, hdram, hbyte a, if_pos ⟨hcovered, hfit⟩]
    exact s.dram.writtenByte_found start data a (report (a / 32))
  · rw [hbad _ hfit, hdram, hflaw l, if_pos ⟨hcovered, hfit⟩]
    exact s.dram.writtenFlaw_eq start data l (report l)
  · exact (honly.requests q hq).trans (hquiet.settles.port q).requests
  · exact (honly.link q hq).trans (hquiet.settles.port q).link
  · exact (honly.session q hq).trans (hquiet.settles.port q).session
  · exact (honly.aperture q hq).trans (hquiet.aperture q)
  · exact honly.pool.trans (pool_unpin_congr (by rfl) _)
  · by_cases hstate : (s.port p).session.state = .teardown
    · rw [hteardown hstate, requests_endTeardownIfEmpty, requests_modRequests_same, hrequests]
    · rw [hopen hstate, requests_modRequests_same, hrequests, reservedLines_present]
  · intro unpinned
    have hunpinned : unpinned = s.writeUnpinned o d := by
      simp only [unpinned, hdram]; rfl
    rw [hunpinned]
    refine ⟨fun hstate => ?_, fun hstate => ?_⟩
    · rw [hteardown hstate, requests_endTeardownIfEmpty, State.endTeardownIfEmpty, requests_modRequests_same]
      exact ⟨fun hleft => if_neg hleft, fun hnone => if_pos hnone, rfl⟩
    · have hunit : ((s.writeCompleted p o reports).port p).requests = _ :=
        (congrArg (fun t => (t.port p).requests) (hopen hstate)).trans (requests_modRequests_same _ _ _)
      refine ⟨(hopen hstate).trans (modRequests_congr _ hunit.symm), hunit.trans ?_⟩
      rw [hrequests]
      rfl

end Sys2Proof.Machine
end

section
/-! SUPPORT. What the steps of a teardown tell the ports: by the pool, the role and the sessions alone, and a port out of
session nothing (R24, R26, R150). -/

namespace Sys2Proof.Machine

/-! ### What the claims tell the administrator -/

/-- The administrator is told, if there is something to tell. -/
def State.tellAdmin (s : State) : Option Notice → State
  | none => s
  | some n => s.raiseForAdmin n

theorem ports_tellAdmin_congr {s t : State} (hports : t.ports = s.ports) (hrole : t.role = s.role)
    (n : Option Notice) : (t.tellAdmin n).ports = (s.tellAdmin n).ports := by
  cases n with
  | none => exact hports
  | some n => exact ports_raiseForAdmin_congr hports hrole n

theorem ports_tellAdmin_setFrame (s : State) (f : Nat) (r : FrameRecord) (n : Option Notice) :
    ((s.setFrame f r).tellAdmin n).ports = (s.tellAdmin n).ports :=
  ports_tellAdmin_congr (s := s) (t := s.setFrame f r) rfl rfl n

/-- One notice at most goes out, and the pool decides which. -/
def Tells (op : State → State) : Prop :=
  ∀ s : State, ∃ n, ∀ u : State, u.pool = s.pool → (op u).ports = (u.tellAdmin n).ports

theorem afterRetired_tells (k : Slot) : Tells fun s => s.afterRetired k := by
  intro s
  have hlast : ∀ u : State, u.pool = s.pool → (u.LastRetired k ↔ s.LastRetired k) := fun u hu => by
    rw [State.LastRetired, State.LastRetired, region_of_pool hu, noneHeld_of_pool hu]
  by_cases h : s.LastRetired k
  · refine ⟨some (.regionState k .retired (s.region k).cause), fun u hu => ?_⟩
    rw [ports_afterRetired_last ((hlast u hu).2 h), region_of_pool hu]
    rfl
  · exact ⟨none, fun u hu => ports_afterRetired_notLast (mt (hlast u hu).1 h)⟩

theorem retireFrame_tells (f : Nat) : Tells fun s => s.retireFrame f := by
  intro s
  cases hslot : s.regionSlot f with
  | none =>
    refine ⟨none, fun u hu => ?_⟩
    simp only [State.retireFrame, (spans_of_pool hu).regionSlot, hslot]
    rfl
  | some k =>
    obtain ⟨n, hn⟩ := afterRetired_tells k (s.setFrame f { s.frame f with state := .retired, originator := none })
    refine ⟨n, fun u hu => ?_⟩
    simp only [State.retireFrame, (spans_of_pool hu).regionSlot, hslot, frame_of_pool hu]
    rw [hn _ (pool_setFrame_congr hu f _)]
    exact ports_tellAdmin_setFrame u f _ n

theorem settleFrame_tells (f : Nat) : Tells fun s => s.settleFrame f := by
  intro s
  by_cases hretires : ((s.frame f).state = .held ∨ (s.frame f).state = .parked) ∧ (s.frame f).holders = 0 ∧
      (s.frame f).pins = 0 ∧ ((s.frame f).poisoned ∨ s.regionIs f .draining)
  · obtain ⟨n, hn⟩ := retireFrame_tells f s
    refine ⟨n, fun u hu => ?_⟩
    obtain ⟨hstate, hholders, hpins, hpoor⟩ := hretires
    simp only [State.settleFrame, State.dispose, frame_of_pool hu, regionIs_of_pool hu, if_pos hstate,
      if_pos hholders, if_pos hpins, if_pos hpoor]
    exact hn u hu
  · refine ⟨none, fun u hu => ?_⟩
    simp only [State.settleFrame, State.dispose, frame_of_pool hu, regionIs_of_pool hu]
    split
    · rename_i hstate
      split
      · rename_i hholders
        split
        · rename_i hpins
          rw [if_neg fun hpoor => hretires ⟨hstate, hholders, hpins, hpoor⟩]
          rfl
        · rfl
      · rfl
    · rfl

theorem unpin_tells (f : Nat) : Tells fun s => s.unpin f := by
  intro s
  obtain ⟨n, hn⟩ := settleFrame_tells f (s.setFrame f { s.frame f with pins := (s.frame f).pins - 1 })
  refine ⟨n, fun u hu => ?_⟩
  simp only [State.unpin, frame_of_pool hu]
  rw [hn _ (pool_setFrame_congr hu f _)]
  exact ports_tellAdmin_setFrame u f _ n

theorem unhold_tells (f : Nat) : Tells fun s => s.unhold f := by
  intro s
  obtain ⟨n, hn⟩ := settleFrame_tells f (s.setFrame f { s.frame f with holders := (s.frame f).holders - 1 })
  refine ⟨n, fun u hu => ?_⟩
  simp only [State.unhold, frame_of_pool hu]
  rw [hn _ (pool_setFrame_congr hu f _)]
  exact ports_tellAdmin_setFrame u f _ n

theorem pool_unhold_congr {s t : State} (h : t.pool = s.pool) (f : Nat) :
    (t.unhold f).pool = (s.unhold f).pool := by
  have hset := pool_setFrame_congr h f { s.frame f with holders := (s.frame f).holders - 1 }
  simp only [State.unhold, State.settleFrame, frame_of_pool h, apply_ite State.pool, frame_of_pool hset,
    pool_dispose_congr hset, pool_setFrame_congr hset, hset]

/-! ### Two states that tell alike -/

/-- The same pool, role and sessions, and the same told to the ports but this one. -/
structure Alike (p : Port) (a b : State) : Prop where
  pool : b.pool = a.pool
  role : b.role = a.role
  session : ∀ q, (b.port q).session = (a.port q).session
  transmit : ∀ q, q ≠ p → (b.port q).transmit = (a.port q).transmit

theorem Alike.refl (p : Port) (a : State) : Alike p a a := ⟨rfl, rfl, fun _ => rfl, fun _ _ => rfl⟩

theorem Alike.trans {p : Port} {a b c : State} (h : Alike p a b) (g : Alike p b c) : Alike p a c :=
  ⟨g.pool.trans h.pool, g.role.trans h.role, fun q => (g.session q).trans (h.session q),
    fun q hq => (g.transmit q hq).trans (h.transmit q hq)⟩

theorem Alike.inSession {p : Port} {a b : State} (h : Alike p a b) (q : Port) :
    b.inSession q = a.inSession q := by
  rw [State.inSession, State.inSession, h.session]

theorem modRequests_alike (s : State) (p : Port) (g : RequestUnit → RequestUnit) :
    Alike p s (s.modRequests p g) :=
  ⟨rfl, rfl, fun q => session_modRequests s p q g, fun q hq => by rw [port_modRequests_ne s hq]⟩

theorem modTransmit_alike (s : State) (p : Port) (g : TransmitUnit → TransmitUnit) :
    Alike p s (s.modTransmit p g) :=
  ⟨rfl, rfl, fun q => session_modTransmit s p q g, fun q hq => by rw [port_modTransmit_ne s hq]⟩

theorem setSlot_alike (s : State) (p : Port) (g : Nat) (m : Option Mapping) : Alike p s (s.setSlot p g m) :=
  ⟨rfl, rfl, fun q => by simp [State.setSlot], fun q hq => by simp [State.setSlot]⟩

theorem modShare_alike (s : State) (p : Port) (g : ShareUnit → ShareUnit) : Alike p s (s.modShare g) :=
  ⟨rfl, rfl, fun _ => rfl, fun _ _ => rfl⟩

theorem transmit_raiseForAdmin (s : State) (n : Notice) (q : Port) :
    ((s.raiseForAdmin n).port q).transmit =
      if s.role = .held q ∧ s.inSession q = true then (s.port q).transmit.enterNotice n
      else (s.port q).transmit := by
  unfold State.raiseForAdmin
  cases hrole : s.role with
  | held p => simp only [transmit_raiseNotice, AdminRole.held.injEq, eq_comm]
  | reserved p => simp
  | vacant => simp

theorem transmit_tellAdmin (s : State) (n : Option Notice) (q : Port) :
    ((s.tellAdmin n).port q).transmit =
      if s.role = .held q ∧ s.inSession q = true then
        (n.map (s.port q).transmit.enterNotice).getD (s.port q).transmit
      else (s.port q).transmit := by
  cases n with
  | none => simp [State.tellAdmin]
  | some n => exact transmit_raiseForAdmin s n q

section
variable {p : Port} {a b : State} (h : Alike p a b)
include h

theorem Alike.raiseNotice (q : Port) (n : Notice) : Alike p (a.raiseNotice q n) (b.raiseNotice q n) := by
  refine ⟨by simpa using h.pool, by simpa using h.role, fun x => by simpa using h.session x, fun x hx => ?_⟩
  rw [transmit_raiseNotice, transmit_raiseNotice, h.inSession, h.transmit x hx]

theorem Alike.raiseAdminChanged (holder : Option Port) :
    Alike p (a.raiseAdminChanged holder) (b.raiseAdminChanged holder) := by
  refine ⟨by simpa using h.pool, by simpa using h.role, fun x => by simpa using h.session x, fun x hx => ?_⟩
  rw [transmit_raiseAdminChanged, transmit_raiseAdminChanged, h.inSession, h.transmit x hx]

/-- A quiet operation that tells by the pool, on both. -/
theorem Alike.quiet {op : State → State} (hquiet : ∀ s, Quiet s (op s)) (htells : Tells op)
    (hpool : (op b).pool = (op a).pool) : Alike p (op a) (op b) := by
  have hsession : ∀ s x, ((op s).port x).session = (s.port x).session := fun s x =>
    ((hquiet s).settles.port x).session
  refine ⟨hpool, ?_, fun x => ?_, fun x hx => ?_⟩
  · rw [(hquiet b).settles.role, (hquiet a).settles.role, h.role]
  · rw [hsession, hsession, h.session]
  · obtain ⟨n, hn⟩ := htells a
    rw [State.port, State.port, hn a rfl, hn b h.pool, ← State.port, ← State.port, transmit_tellAdmin,
      transmit_tellAdmin, h.role, h.inSession, h.transmit x hx]

theorem Alike.unpin (f : Nat) : Alike p (a.unpin f) (b.unpin f) :=
  h.quiet (op := fun s => s.unpin f) (unpin_quiet · f) (unpin_tells f) (pool_unpin_congr h.pool f)

theorem Alike.unhold (f : Nat) : Alike p (a.unhold f) (b.unhold f) :=
  h.quiet (op := fun s => s.unhold f) (unhold_quiet · f) (unhold_tells f) (pool_unhold_congr h.pool f)

end

/-- A run of operations that agree pairwise. -/
theorem Alike.foldl {β : Type} {p : Port} {f g : State → β → State} (l : List β)
    (hstep : ∀ a b x, x ∈ l → Alike p a b → Alike p (f a x) (g b x)) {a b : State} (h : Alike p a b) :
    Alike p (l.foldl f a) (l.foldl g b) := by
  induction l generalizing a b with
  | nil => exact h
  | cons x l ih =>
    exact ih (fun a b y hy => hstep a b y (List.mem_cons_of_mem x hy)) (hstep a b x List.mem_cons_self h)

/-! ### A port out of session hears nothing -/

/-- The port has the same session as before, and out of it the same Transmit Unit. -/
structure Unheard (p : Port) (s t : State) : Prop where
  session : (t.port p).session = (s.port p).session
  transmit : s.inSession p = false → (t.port p).transmit = (s.port p).transmit

theorem Unheard.refl (p : Port) (s : State) : Unheard p s s := ⟨rfl, fun _ => rfl⟩

theorem Unheard.trans {p : Port} {s t u : State} (h : Unheard p s t) (g : Unheard p t u) : Unheard p s u :=
  ⟨g.session.trans h.session, fun hout => (g.transmit (by
    rw [State.inSession, h.session]; exact hout)).trans (h.transmit hout)⟩

theorem Unheard.foldl {β : Type} {p : Port} {f : State → β → State} (h : ∀ s x, Unheard p s (f s x)) (l : List β)
    (s : State) : Unheard p s (l.foldl f s) := by
  induction l generalizing s with
  | nil => exact .refl p s
  | cons x l ih => exact (h s x).trans (ih (f s x))

theorem Unheard.of_same {p : Port} {s t : State} (hsession : (t.port p).session = (s.port p).session)
    (htransmit : (t.port p).transmit = (s.port p).transmit) : Unheard p s t := ⟨hsession, fun _ => htransmit⟩

theorem raiseNotice_unheard (s : State) (p q : Port) (n : Notice) : Unheard p s (s.raiseNotice q n) := by
  refine ⟨session_raiseNotice s q n p, fun hout => ?_⟩
  rw [transmit_raiseNotice, if_neg (by simp [hout])]

theorem raiseAdminChanged_unheard (s : State) (p : Port) (holder : Option Port) :
    Unheard p s (s.raiseAdminChanged holder) := by
  refine ⟨session_raiseAdminChanged s holder p, fun hout => ?_⟩
  rw [transmit_raiseAdminChanged, if_neg (by simp [hout])]

theorem Quiet.unheard {op : State → State} {s : State} (hquiet : Quiet s (op s)) (htells : Tells op)
    (p : Port) : Unheard p s (op s) := by
  refine ⟨(hquiet.settles.port p).session, fun hout => ?_⟩
  obtain ⟨n, hn⟩ := htells s
  rw [State.port, hn s rfl, ← State.port, transmit_tellAdmin, if_neg (by simp [hout])]

theorem unpin_unheard (s : State) (p : Port) (f : Nat) : Unheard p s (s.unpin f) :=
  (unpin_quiet s f).unheard (op := fun s => s.unpin f) (unpin_tells f) p

theorem unhold_unheard (s : State) (p : Port) (f : Nat) : Unheard p s (s.unhold f) :=
  (unhold_quiet s f).unheard (op := fun s => s.unhold f) (unhold_tells f) p

theorem raiseOfferNotices_unheard (s : State) (p : Port) (offers : List Offer) (note : Offer → Port × Notice) :
    Unheard p s (s.raiseOfferNotices offers note) :=
  Unheard.foldl (fun s _ => raiseNotice_unheard s p _ _) offers s

theorem removeOffersOf_unheard (s : State) (p q : Port) : Unheard p s (s.removeOffersOf q) :=
  Unheard.trans (t := s.modShare fun u => u.removeOffers fun o => o.offering == q || o.target == q)
    (.of_same rfl rfl) (raiseOfferNotices_unheard _ p _ _)

theorem withdrawForPage_unheard (s : State) (p q : Port) (g : Nat) : Unheard p s (s.withdrawForPage q g) :=
  Unheard.trans (t := s.modShare fun u => u.removeOffers fun o => o.offering == q && o.page == g)
    (.of_same rfl rfl) (raiseOfferNotices_unheard _ p _ _)

theorem vacateRole_unheard (s : State) (p : Port) : Unheard p s (s.vacateRole p) := by
  unfold State.vacateRole
  split
  · exact Unheard.trans (t := { s with role := .vacant }) (.of_same rfl rfl) (raiseAdminChanged_unheard _ p _)
  · exact .refl p s

theorem discardEntry_unheard (s : State) (p : Port) (e : Entry) : Unheard p s (s.discardEntry p e) := by
  unfold State.discardEntry
  split
  · split
    · refine Unheard.trans ?_ (unpin_unheard _ p _)
      split
      · exact .of_same (session_modRequests s p p _) (transmit_modRequests s p p _)
      · exact .refl p s
    · exact .refl p s
  · exact .refl p s

theorem tearQueues_unheard (s : State) (p : Port) : Unheard p s (s.tearQueues p) :=
  (Unheard.foldl (fun t e => discardEntry_unheard t p e) _ s).trans
    (.of_same (session_modRequests _ p p _) (transmit_modRequests _ p p _))

theorem releasePage_unheard (s : State) (p : Port) (g : Nat) : Unheard p s (s.releasePage p g) := by
  unfold State.releasePage
  split
  · exact .refl p s
  · exact ((withdrawForPage_unheard s p p g).trans
      (.of_same (by simp [State.setSlot]) (by simp [State.setSlot]))).trans (unhold_unheard _ p _)

theorem releaseAll_unheard (s : State) (p : Port) : Unheard p s (s.releaseAll p) :=
  Unheard.foldl (fun t g => releasePage_unheard t p g) _ s

/-! ### The stages of a teardown (R186) -/

/-- Steps 1 and 2: TEARDOWN with its cause, and the Transmit Unit cleared. -/
def State.tearing (s : State) (p : Port) (cause : TeardownCause) : State :=
  (s.modSession p fun c => { c with state := .teardown, cause := some cause }).modTransmit p
    TransmitUnit.clearForTeardown

theorem tornDown_eq (s : State) (p : Port) (cause : TeardownCause) :
    s.tornDown p cause = ((((s.tearing p cause).tearQueues p).removeOffersOf p).vacateRole p).releaseAll p := rfl

theorem inSession_tearing (s : State) (p : Port) (cause : TeardownCause) :
    (s.tearing p cause).inSession p = false := by
  simp [State.tearing, State.inSession, SessionState.inSession]

/-- Before its end a teardown leaves the port's Transmit Unit cleared. -/
theorem transmit_tornDown (s : State) (p : Port) (cause : TeardownCause) :
    ((s.tornDown p cause).port p).transmit = (s.port p).transmit.clearForTeardown := by
  have hunheard : ∀ t : State, Unheard p t ((((t.tearQueues p).removeOffersOf p).vacateRole p).releaseAll p) :=
    fun t => (((tearQueues_unheard t p).trans (removeOffersOf_unheard _ p p)).trans
      (vacateRole_unheard _ p)).trans (releaseAll_unheard _ p)
  rw [tornDown_eq, (hunheard _).transmit (inSession_tearing s p cause)]
  simp [State.tearing]

/-! ### The class queues and the write lines (R97) -/

/-- The claim that a teardown drops with the entry. -/
def Entry.dropped (e : Entry) : Option Translation :=
  if e.state = .waiting ∨ e.state = .presented then e.translation else none

/-- The write lines that go with it. -/
def Entry.droppedLines (e : Entry) : Nat :=
  match e.dropped with
  | some tr => if e.isWrite then tr.lineCount else 0
  | none => 0

/-- An entry's claim is dropped: its write lines are freed and its frame is unpinned. -/
def State.dropClaim (s : State) (p : Port) (e : Entry) : Option Translation → State
  | some tr => (if e.isWrite then s.modRequests p fun r => r.freeWriteLines tr.lineCount else s).unpin tr.frame
  | none => s

theorem discardEntry_eq (s : State) (p : Port) (e : Entry) : s.discardEntry p e = s.dropClaim p e e.dropped := by
  unfold State.discardEntry Entry.dropped
  by_cases hstate : e.state = .waiting ∨ e.state = .presented
  · rw [if_pos hstate, if_pos hstate]
    cases e.translation <;> rfl
  · rw [if_neg hstate, if_neg hstate]
    rfl

theorem requests_discardEntry (s : State) (p : Port) (e : Entry) :
    ((s.discardEntry p e).port p).requests = (s.port p).requests.freeWriteLines e.droppedLines := by
  rw [discardEntry_eq, Entry.droppedLines]
  cases e.dropped with
  | none => rfl
  | some tr =>
    simp only [State.dropClaim, ((unpin_quiet _ _).settles.port p).requests]
    split
    · rw [requests_modRequests_same]
    · rfl

theorem requests_foldl_discard (l : List Entry) (s : State) (p : Port) :
    ((l.foldl (fun t e => t.discardEntry p e) s).port p).requests =
      (s.port p).requests.freeWriteLines (l.map Entry.droppedLines).sum := by
  induction l generalizing s with
  | nil => rfl
  | cons e l ih =>
    rw [List.foldl_cons, ih, requests_discardEntry, List.map_cons, List.sum_cons]
    simp only [RequestUnit.freeWriteLines, Nat.sub_sub]

/-- The Request Unit after the class queues' part of a teardown: the entries IN_MEMORY, and the lines of the others
freed. -/
def RequestUnit.tornDown (r : RequestUnit) : RequestUnit :=
  { r with
    entries := r.entries.filter Entry.inMem
    reservedLines := r.reservedLines - (r.entries.map Entry.droppedLines).sum }

/-- Each entry stands in one class queue. -/
theorem sum_teardownOrder (r : RequestUnit) (g : Entry → Nat) :
    (r.teardownOrder.map g).sum = (r.entries.map g).sum := by
  unfold RequestUnit.teardownOrder RequestUnit.queue
  induction r.entries with
  | nil => rfl
  | cons e es ih =>
    rw [List.map_append, List.sum_append] at ih ⊢
    cases hcls : e.cls <;> simp [hcls] <;> omega

theorem requests_tornDown (s : State) (p : Port) (cause : TeardownCause) :
    ((s.tornDown p cause).port p).requests = (s.port p).requests.tornDown := by
  have hkept : ((s.tearing p cause).port p).requests = (s.port p).requests := by simp [State.tearing]
  rw [tornDown_eq, ((releaseAll_settles _ p).port p).requests, requests_vacateRole,
    ((removeOffersOf_settles _ p).port p).requests, State.tearQueues, requests_modRequests_same,
    requests_foldl_discard, sum_teardownOrder, hkept]
  rfl

/-! ### The end of a teardown (R188) -/

theorem transmit_enterNotice (s : State) (p q : Port) (n : Notice) :
    ((s.enterNotice p n).port q).transmit =
      if q = p then (s.port p).transmit.enterNotice n else (s.port q).transmit := by
  by_cases h : q = p
  · subst h; simp [State.enterNotice]
  · rw [if_neg h, State.enterNotice, port_modTransmit_ne s h]

theorem transmit_raisePortState (s : State) (p q : Port) (st : SessionState) (cause : SessionCause) :
    ((s.raisePortState p st cause).port q).transmit =
      if q ≠ p ∧ s.role = .held q ∧ s.inSession q = true then
        (s.port q).transmit.enterNotice (.portState p st cause)
      else (s.port q).transmit := by
  unfold State.raisePortState
  by_cases hadmin : s.role = .held p
  · rw [if_pos (by simpa [State.isAdmin] using hadmin), if_neg]
    rintro ⟨hne, hrole, -⟩
    rw [hadmin] at hrole
    exact hne (AdminRole.held.inj hrole).symm
  · rw [if_neg (by simpa [State.isAdmin] using hadmin), transmit_raiseForAdmin]
    by_cases hq : q = p
    · subst hq
      simp [hadmin]
    · simp [hq]

/-- The notice that the port itself gets at its teardown's end, if any (R182; R188, step 3). -/
def PortController.endNotice (c : PortController) : Option Notice :=
  if c.endState = .disabled then some (.sessionEnded .disabled)
  else if c.cause = some .evicted then some (.sessionEnded .evicted) else none

theorem transmit_raiseSessionEnded (s : State) (p q : Port) (c : PortController) :
    ((s.raiseSessionEnded p c).port q).transmit =
      if q = p then (c.endNotice.map (s.port p).transmit.enterNotice).getD (s.port p).transmit
      else (s.port q).transmit := by
  have hsame : (if q = p then (s.port p).transmit else (s.port q).transmit) = (s.port q).transmit := by
    by_cases h : q = p <;> simp [h]
  unfold State.raiseSessionEnded PortController.endNotice
  split
  · exact transmit_enterNotice s p q _
  · split
    · exact transmit_enterNotice s p q _
    · exact hsame.symm

theorem transmit_endTeardown (s : State) (p q : Port) :
    ((s.endTeardown p).port q).transmit =
      if q = p then ((s.port p).session.endNotice.map (s.port p).transmit.enterNotice).getD (s.port p).transmit
      else if s.role = .held q ∧ s.inSession q = true then
        (s.port q).transmit.enterNotice
          (.portState p (s.port p).session.endState (s.port p).session.endCause)
      else (s.port q).transmit := by
  unfold State.endTeardown
  simp only [transmit_raiseSessionEnded, transmit_raisePortState, transmit_modSession]
  by_cases hq : q = p
  · simp [hq]
  · have hin : ∀ g, (s.modSession p g).inSession q = s.inSession q := fun g => by
      rw [State.inSession, State.inSession, port_modSession_ne s hq]
    simp only [hin, hq, ne_eq, not_false_eq_true, true_and, if_false, role_modSession]

/-- A teardown's end is the same for two states that tell alike. -/
theorem Alike.endTeardown {p : Port} {a b : State} (h : Alike p a b) {q : Port} (hq : q ≠ p) :
    ((b.endTeardown p).port q).transmit = ((a.endTeardown p).port q).transmit := by
  rw [transmit_endTeardown, transmit_endTeardown, if_neg hq, if_neg hq, h.role, h.inSession, h.session,
    h.transmit q hq]

/-! ### The teardown, stage by stage, beside the claims and notices that it is said to make -/

theorem tearing_alike (s : State) (p : Port) (cause : TeardownCause) :
    Alike p (s.modSession p fun c => { c with state := .teardown, cause := some cause }) (s.tearing p cause) :=
  modTransmit_alike _ p _

/-- The discards are the unpins of what is dropped. -/
theorem foldl_discard_alike {p : Port} (l : List Entry) {a b : State} (h : Alike p a b) :
    Alike p ((l.filterMap Entry.dropped).foldl (fun u tr => u.unpin tr.frame) a)
      (l.foldl (fun t e => t.discardEntry p e) b) := by
  induction l generalizing a b with
  | nil => exact h
  | cons e l ih =>
    rw [List.foldl_cons, discardEntry_eq]
    cases hdropped : e.dropped with
    | none =>
      rw [List.filterMap_cons_none hdropped]
      exact ih h
    | some tr =>
      rw [List.filterMap_cons_some hdropped, List.foldl_cons]
      refine ih (Alike.unpin (h.trans ?_) tr.frame)
      split
      · exact modRequests_alike b p _
      · exact .refl p b

theorem tearQueues_alike {p : Port} {a b : State} (h : Alike p a b) :
    Alike p (((b.port p).requests.teardownOrder.filterMap Entry.dropped).foldl (fun u tr => u.unpin tr.frame) a)
      (b.tearQueues p) :=
  (foldl_discard_alike _ h).trans (modRequests_alike _ p _)

/-- What the other party of a removed offer is told (R68). -/
def State.tellRemoved (s : State) (p : Port) (o : Offer) : State :=
  if o.offering = p then s.raiseNotice o.target (.offerWithdrawn o.number .offererGone)
  else s.raiseNotice o.offering (.offerDeclined o.number .targetGone)

theorem removeOffersOf_alike {p : Port} {a b : State} (h : Alike p a b) :
    Alike p ((b.share.offers.filter fun o => o.offering == p || o.target == p).foldl
      (fun u o => u.tellRemoved p o) a) (b.removeOffersOf p) := by
  refine Alike.foldl _ (fun a b o _ hab => ?_) (h.trans (modShare_alike b p _))
  unfold State.tellRemoved
  by_cases ho : o.offering = p
  · simp only [if_pos ho]
    exact hab.raiseNotice _ _
  · simp only [if_neg ho]
    exact hab.raiseNotice _ _

theorem vacateRole_alike {p : Port} {a b : State} (h : Alike p a b) :
    Alike p (if a.role = .held p then ({ a with role := .vacant }).raiseAdminChanged none else a)
      (b.vacateRole p) := by
  have hadmin : b.isAdmin p = true ↔ a.role = .held p := by rw [← h.role]; simp [State.isAdmin]
  have hvacant : Alike p { a with role := .vacant } { b with role := .vacant } :=
    ⟨h.pool, rfl, h.session, h.transmit⟩
  unfold State.vacateRole
  by_cases hrole : a.role = .held p
  · rw [if_pos hrole, if_pos (hadmin.2 hrole)]
    exact hvacant.raiseAdminChanged none
  · rw [if_neg hrole, if_neg (mt hadmin.1 hrole)]
    exact h

/-- A page of a port that offers nothing: its frame is unheld. -/
theorem releasePage_alike {p : Port} {a b : State} (h : Alike p a b) {g : Nat} {m : Mapping}
    (hslot : b.slotAt p g = some m) (hoffers : ∀ o ∈ b.share.offers, o.offering ≠ p) :
    Alike p (a.unhold m.frame) (b.releasePage p g) := by
  have hnone : b.share.offers.filter (fun o => o.offering == p && o.page == g) = [] := by
    rw [List.filter_eq_nil_iff]
    intro o ho
    simp [hoffers o ho]
  have hwithdrawn : Alike p b (b.withdrawForPage p g) := by
    rw [State.withdrawForPage, hnone, State.raiseOfferNotices, List.foldl_nil]
    exact modShare_alike b p _
  rw [State.releasePage, hslot]
  exact ((h.trans hwithdrawn).trans (setSlot_alike _ p g none)).unhold m.frame

theorem share_releasePage_unoffered {s : State} {p : Port} (g : Nat) (h : ∀ o ∈ s.share.offers, o.offering ≠ p) :
    (s.releasePage p g).share = s.share := by
  by_cases hslot : s.slotAt p g = none
  · rw [releasePage_empty hslot]
  · rw [share_releasePage hslot, ShareUnit.removeOffers, List.filter_eq_self.2]
    intro o ho
    simp [h o ho]

/-- The release of the listed pages, all that the port maps, in their order. -/
theorem releasePages_alike {p : Port} (l : Sparse Mapping) {a b : State} (h : Alike p a b)
    (hslots : (b.port p).aperture.slots = l) (hoffers : ∀ o ∈ b.share.offers, o.offering ≠ p) :
    Alike p (l.foldl (fun u x => u.unhold x.2.frame) a) (b.releasePages p (l.map Prod.fst)) ∧
      (b.releasePages p (l.map Prod.fst)).share = b.share := by
  induction l generalizing a b with
  | nil => exact ⟨h, rfl⟩
  | cons x l ih =>
    have hslot : b.slotAt p x.1 = some x.2 := by
      rw [State.slotAt, hslots, Sparse.get, if_pos rfl]
    have hshare := share_releasePage_unoffered x.1 hoffers
    have hrest : ((b.releasePage p x.1).port p).aperture.slots = l := by
      rw [aperture_releasePage, if_pos rfl, hslots, Sparse.set, if_neg (lt_irrefl _), if_pos rfl]
      rfl
    have hnext := ih (releasePage_alike h hslot hoffers) hrest (by rwa [hshare])
    rw [hshare] at hnext
    exact hnext

/-! ### The whole teardown -/

/-- After the records that name the port are out, it offers nothing. -/
theorem offering_ne_of_removed {u : ShareUnit} {p : Port} :
    ∀ o ∈ (u.removeOffers fun o => o.offering == p || o.target == p).offers, o.offering ≠ p := by
  intro o ho
  have hkept := (List.mem_filter.1 ho).2
  simp only [Bool.not_or, Bool.and_eq_true, Bool.not_eq_true', beq_eq_false_iff_ne] at hkept
  exact hkept.1

theorem share_removeOffersOf (s : State) (p : Port) :
    (s.removeOffersOf p).share = s.share.removeOffers fun o => o.offering == p || o.target == p := by
  rw [State.removeOffersOf, share_raiseOfferNotices, share_modShare]

theorem role_foldl_unpin (l : List Translation) (s : State) :
    (l.foldl (fun u tr => u.unpin tr.frame) s).role = s.role := by
  induction l generalizing s with
  | nil => rfl
  | cons tr l ih => exact (ih _).trans (unpin_quiet s _).settles.role

theorem role_foldl_tellRemoved (l : List Offer) (p : Port) (s : State) :
    (l.foldl (fun u o => u.tellRemoved p o) s).role = s.role := by
  induction l generalizing s with
  | nil => rfl
  | cons o l ih =>
    refine (ih (s.tellRemoved p o)).trans ?_
    unfold State.tellRemoved
    split <;> rw [role_raiseNotice]

theorem role_vacateRole (s : State) (p : Port) :
    (s.vacateRole p).role = if s.role = .held p then .vacant else s.role := by
  unfold State.vacateRole State.isAdmin
  by_cases hrole : s.role = .held p
  · simp [hrole]
  · simp [hrole]

/-- The claims and the notices of a teardown before its end (R186): the unpins of what is dropped, the notices of the
removed offers, the vacant role, and the unholds of what was mapped. -/
theorem tornDown_alike (s : State) (p : Port) (cause : TeardownCause) {a told : State}
    (ha : Alike p a (s.tearing p cause))
    (htold : told = (s.share.offers.filter fun o => o.offering == p || o.target == p).foldl
      (fun u o => u.tellRemoved p o)
      (((s.port p).requests.teardownOrder.filterMap Entry.dropped).foldl (fun u tr => u.unpin tr.frame) a)) :
    Alike p
      ((s.port p).aperture.slots.foldl (fun u x => u.unhold x.2.frame)
        (if s.role = .held p then ({ told with role := .vacant }).raiseAdminChanged none else told))
      (s.tornDown p cause) ∧
    (s.tornDown p cause).role = (if s.role = .held p then .vacant else s.role) ∧
    (s.tornDown p cause).share = s.share.removeOffers fun o => o.offering == p || o.target == p := by
  have hentries : ((s.tearing p cause).port p).requests = (s.port p).requests := by simp [State.tearing]
  have hqueues := tearQueues_alike ha
  rw [hentries] at hqueues
  have hshare : ((s.tearing p cause).tearQueues p).share = s.share := share_tearQueues _ p
  have hremoved := removeOffersOf_alike hqueues
  rw [hshare, ← htold] at hremoved
  have hrole : told.role = s.role := by
    rw [htold, role_foldl_tellRemoved, role_foldl_unpin, ← ha.role]
    rfl
  have hvacated := vacateRole_alike hremoved
  rw [hrole] at hvacated
  have hslots : (((((s.tearing p cause).tearQueues p).removeOffersOf p).vacateRole p).port p).aperture.slots =
      (s.port p).aperture.slots := by simp [State.tearing]
  have hleft : ((((s.tearing p cause).tearQueues p).removeOffersOf p).vacateRole p).share =
      s.share.removeOffers fun o => o.offering == p || o.target == p := by
    rw [share_vacateRole, share_removeOffersOf, hshare]
  have hreleased := releasePages_alike _ hvacated hslots (by rw [hleft]; exact offering_ne_of_removed)
  rw [hleft, ← hslots] at hreleased
  have hvacant : (s.tornDown p cause).role = if s.role = .held p then .vacant else s.role := by
    rw [tornDown_eq, (releaseAll_settles _ p).role, role_vacateRole, hremoved.role, hrole]
  rw [← hslots]
  exact ⟨hreleased.1, hvacant, hreleased.2⟩

/-- A port's table after its teardown (R55). -/
theorem aperture_tornDown (s : State) (p : Port) (cause : TeardownCause) :
    ((s.tornDown p cause).port p).aperture = { (s.port p).aperture with slots := [] } := by
  rw [tornDown_eq, State.releaseAll, aperture_releasePages, if_pos rfl, Sparse.foldl_set_none]
  simp [State.tearing]

theorem sum_droppedLines (es : List Entry) :
    (es.map Entry.droppedLines).sum =
      (((es.filter fun e => e.kind == .write).filterMap Entry.dropped).map Translation.lineCount).sum := by
  induction es with
  | nil => rfl
  | cons e es ih =>
    rw [List.map_cons, List.sum_cons, ih, Entry.droppedLines]
    cases hdropped : e.dropped with
    | none => by_cases hwrite : e.kind = .write <;> simp [hwrite, hdropped]
    | some tr => by_cases hwrite : e.kind = .write <;> simp [hwrite, hdropped, Entry.isWrite]

/-- What the end of a teardown says of the session in words of its cause and its pending disable. -/
theorem endState_disables (c : PortController) :
    c.endState = (if c.cause = some .disabled ∨ c.disablePending = true then .disabled else .closed) ∧
    c.endCause = .ended (if c.cause = some .disabled ∨ c.disablePending = true then .disabled
      else c.cause.getD .closedByHost) ∧
    c.endNotice = (if c.cause = some .disabled ∨ c.disablePending = true then some (.sessionEnded .disabled)
      else if c.cause = some .evicted then some (.sessionEnded .evicted) else none) := by
  unfold PortController.endNotice PortController.endCause PortController.endState
  by_cases h : c.cause = some .disabled ∨ c.disablePending = true
  · simp [if_pos h]
  · cases hcause : c.cause <;> simp [hcause] at h ⊢ <;> simp [h]

theorem endTeardownIfEmpty_onlyAt (s : State) (p : Port) : OnlyAt p s (s.endTeardownIfEmpty p) := by
  unfold State.endTeardownIfEmpty
  split
  · exact endTeardown_onlyAt s p
  · exact (Quiet.refl s).onlyAt rfl p

/-- The end's effect on its own port, where it comes at once. -/
theorem endTeardownIfEmpty_same (s : State) (p : Port) :
    (((s.endTeardownIfEmpty p).port p).session.cause = (s.port p).session.cause ∧
    ((s.endTeardownIfEmpty p).port p).session.state =
      if (s.port p).requests.entries = [] then (s.port p).session.endState else (s.port p).session.state) ∧
    ((s.endTeardownIfEmpty p).port p).transmit =
      if (s.port p).requests.entries = [] then
        ((s.port p).session.endNotice.map (s.port p).transmit.enterNotice).getD (s.port p).transmit
      else (s.port p).transmit := by
  unfold State.endTeardownIfEmpty
  by_cases h : (s.port p).requests.entries = []
  · simp only [if_pos h, session_endTeardown, transmit_endTeardown]
    simp
  · simp only [if_neg h]
    simp

theorem link_endTeardown (s : State) (p q : Port) : ((s.endTeardown p).port q).link = (s.port q).link := by
  rw [((endTeardown_quiet s p).1.settles.port q).link, link_modSession]

theorem aperture_endTeardown (s : State) (p q : Port) :
    ((s.endTeardown p).port q).aperture = (s.port q).aperture := by
  rw [(endTeardown_quiet s p).1.aperture, aperture_modSession]

theorem aperture_endTeardownIfEmpty (s : State) (p q : Port) :
    ((s.endTeardownIfEmpty p).port q).aperture = (s.port q).aperture := by
  unfold State.endTeardownIfEmpty
  split
  · exact aperture_endTeardown s p q
  · rfl

/-- Settles O39: the teardown stage by stage beside what it is said to do, and its end. -/
theorem teardownEndsTheSession : Obligations.TeardownEndsTheSession := by
  refine ⟨fun s p cause _ _ => ?_, fun s p => ?_⟩
  · intro t kept disables dropped ofClass torn unpinned told vacated released ended
    obtain ⟨halike, hrole, hshare⟩ := tornDown_alike s p cause (tearing_alike s p cause) rfl
    have htorn := tornDown_torn s p cause
    have hrequests := requests_tornDown s p cause
    have hsession := session_tornDown s p cause
    have htransmit := transmit_tornDown s p cause
    have haperture := aperture_tornDown s p cause
    have hothers := fun q hq => aperture_tornDown_ne s (p := p) (q := q) hq cause
    have ht : t = (s.tornDown p cause).endTeardownIfEmpty p := startTeardown_eq s p cause
    obtain ⟨u, hu⟩ : ∃ u, s.tornDown p cause = u := ⟨_, rfl⟩
    rw [hu] at halike hrole hshare htorn hrequests hsession htransmit haperture hothers ht
    have hkept : (u.port p).requests.entries = kept := congrArg RequestUnit.entries hrequests
    have honly : OnlyAt p u t := by rw [ht]; exact endTeardownIfEmpty_onlyAt u p
    have htrequests : ∀ q, (t.port q).requests = (u.port q).requests := fun q => by
      rw [ht, requests_endTeardownIfEmpty]
    obtain ⟨hstate, -, hnotice⟩ := endState_disables (u.port p).session
    have hlate := htorn.trans (endTeardownIfEmpty_torn u p)
    obtain ⟨⟨htcause, htstate⟩, httransmit⟩ := endTeardownIfEmpty_same u p
    rw [← ht] at htcause htstate httransmit hlate
    rw [hkept] at htstate httransmit
    have hreleased : Alike p released u := halike
    have hlines := congrArg RequestUnit.reservedLines hrequests
    refine ⟨honly.pool.trans hreleased.pool, fun q hq => ?_, ?_, ?_, ?_, ?_, ?_, ?_, ?_, ?_, ?_, ?_, ?_, ?_,
      honly.share.trans hshare, honly.role.trans hrole, fun q hq => ⟨?_, ?_, ?_, ?_, ?_, ?_⟩, ?_, ?_, ?_⟩
    · rw [ht, State.endTeardownIfEmpty, hkept]
      by_cases hnone : kept = []
      · simp only [ended, if_pos hnone]
        exact hreleased.endTeardown hq
      · simp only [ended, if_neg hnone]
        exact hreleased.transmit q hq
    · rw [htrequests, hlines, RequestUnit.tornDown, sum_droppedLines]
      rfl
    · rw [htcause, hsession]
    · rw [htstate, hstate, hsession]
      by_cases hnone : kept = []
      · rw [if_pos hnone, if_neg (not_not.2 hnone)]
        simp [disables]
      · rw [if_neg hnone, if_pos hnone]
    · rw [htrequests, hkept]
    · rw [htrequests, hrequests]; rfl
    · rw [htrequests, hrequests]; rfl
    · rw [htrequests, hrequests]; rfl
    · rw [htrequests, hrequests]; rfl
    · rw [ht, aperture_endTeardownIfEmpty, haperture]
    · rw [httransmit, htransmit, hnotice, hsession]
      by_cases hnone : kept = []
      · rw [if_pos hnone]
        simp only [if_neg (not_not.2 hnone), Option.some.injEq]
        by_cases hdisables : disables
        · rw [if_pos hdisables, if_pos hdisables]; rfl
        · rw [if_neg hdisables, if_neg hdisables]
          split <;> rfl
      · rw [if_neg hnone]
        simp only [if_pos hnone]
        rfl
    · exact hlate.link
    · exact hlate.sent
    · exact (hlate.others q hq).link
    · exact (hlate.others q hq).session
    · exact (hlate.others q hq).requests
    · rw [ht, aperture_endTeardownIfEmpty, hothers q hq]
    · exact (hlate.others q hq).sent
    · exact (hlate.others q hq).refusals
    · exact hlate.rest.scheduler
    · exact hlate.rest.inFlight
    · exact hlate.rest.dram
  · intro t c disables state
    obtain ⟨hstate, hcause, hnotice⟩ := endState_disables c
    have honly := endTeardown_onlyAt s p
    refine ⟨?_, ?_, fun q hq => ?_, fun q => ⟨entries_endTeardown s p q, aperture_endTeardown s p q,
      link_endTeardown s p q, honly.session q⟩, honly.pool, honly.share, honly.role⟩
    · rw [session_endTeardown, hstate]
    · rw [transmit_endTeardown, if_pos rfl, hnotice]
      by_cases h : disables
      · rw [if_pos h, if_pos h]; rfl
      · rw [if_neg h, if_neg h]
        split <;> rfl
    · rw [transmit_endTeardown, if_neg hq, hstate, hcause]

end Sys2Proof.Machine
end

section
/-! SUPPORT. What a host's request leaves to the other ports: each is as it was, or its session is torn down (R186, R190,
R192); and the shape of every sequenced frame. -/

namespace Sys2Proof.Machine

/-! ### A port beside another's request -/

/-- Its requests, its session's being, and its refusals are as before. -/
structure PortState.Untouched (a b : PortState) : Prop where
  requests : b.requests = a.requests
  inSession : b.session.state.inSession = a.session.state.inSession
  refusals : b.transmit.refusals = a.transmit.refusals

/-- Its session was torn down. -/
structure PortState.TornDown (a b : PortState) : Prop where
  requests : b.requests = a.requests.tornDown
  before : a.session.state.inSession = true
  after : b.session.state.inSession = false
  refusals : b.transmit.refusals = []

/-- One or the other. -/
def PortState.Beside (a b : PortState) : Prop := a.Untouched b ∨ a.TornDown b

theorem PortState.Untouched.refl (a : PortState) : a.Untouched a := ⟨rfl, rfl, rfl⟩

theorem PortState.Untouched.trans {a b c : PortState} (h : a.Untouched b) (g : b.Untouched c) : a.Untouched c :=
  ⟨g.requests.trans h.requests, g.inSession.trans h.inSession, g.refusals.trans h.refusals⟩

theorem SamePort.untouched {a b : PortState} (h : SamePort a b) : a.Untouched b :=
  ⟨h.requests, by rw [h.session], h.refusals⟩

theorem PortState.Beside.refl (a : PortState) : a.Beside a := .inl (.refl a)

/-- A session is torn down once. -/
theorem PortState.Beside.trans {a b c : PortState} (h : a.Beside b) (g : b.Beside c) : a.Beside c := by
  rcases h with h | h <;> rcases g with g | g
  · exact .inl (h.trans g)
  · exact .inr ⟨by rw [g.requests, h.requests], h.inSession.symm.trans g.before, g.after, g.refusals⟩
  · exact .inr ⟨g.requests.trans h.requests, h.before, g.inSession.trans h.after, g.refusals.trans h.refusals⟩
  · exact absurd g.before (by simp [h.after])

/-- The other ports stand beside, and the write lines of this one stay. -/
structure Spares (p : Port) (s u : State) : Prop where
  reserved : (u.port p).requests.reservedLines = (s.port p).requests.reservedLines
  others : ∀ q, q ≠ p → (s.port q).Beside (u.port q)

theorem Spares.refl (p : Port) (s : State) : Spares p s s := ⟨rfl, fun _ _ => .refl _⟩

theorem Spares.trans {p : Port} {s t u : State} (h : Spares p s t) (g : Spares p t u) : Spares p s u :=
  ⟨g.reserved.trans h.reserved, fun q hq => (h.others q hq).trans (g.others q hq)⟩

theorem Settles.spares {s u : State} (h : Settles s u) (p : Port) : Spares p s u :=
  ⟨by rw [(h.port p).requests], fun q _ => .inl (h.port q).untouched⟩

theorem Quiet.spares {s u : State} (h : Quiet s u) (p : Port) : Spares p s u := h.settles.spares p

theorem spares_of_ports {s u : State} (h : u.ports = s.ports) (p : Port) : Spares p s u := by
  have hport : ∀ q, u.port q = s.port q := fun q => by rw [State.port, State.port, h]
  exact ⟨by rw [hport], fun q _ => .inl (by rw [hport]; exact .refl _)⟩

theorem modRequests_spares (s : State) (p : Port) {g : RequestUnit → RequestUnit}
    (h : (g (s.port p).requests).reservedLines = (s.port p).requests.reservedLines) :
    Spares p s (s.modRequests p g) :=
  ⟨by rw [requests_modRequests_same, h], fun q hq => by rw [port_modRequests_ne s hq]; exact .refl _⟩

theorem modSession_spares (s : State) (p : Port) {q : Port} {g : PortController → PortController}
    (h : q ≠ p → (g (s.port q).session).state.inSession = (s.port q).session.state.inSession) :
    Spares p s (s.modSession q g) := by
  refine ⟨by rw [requests_modSession], fun x hx => ?_⟩
  by_cases hxq : x = q
  · subst hxq
    exact .inl ⟨requests_modSession s x x g, by rw [session_modSession_same, h hx], by rw [transmit_modSession]⟩
  · rw [port_modSession_ne s hxq]
    exact .refl _

/-! ### The teardown of another port -/

theorem refusals_endTeardownIfEmpty (s : State) (p q : Port) :
    ((s.endTeardownIfEmpty p).port q).transmit.refusals = (s.port q).transmit.refusals := by
  unfold State.endTeardownIfEmpty
  split
  · rw [((endTeardown_quiet s p).1.settles.port q).refusals, transmit_modSession]
  · rfl

theorem startTeardown_tornDown {s : State} {p : Port} (h : s.inSession p = true) (cause : TeardownCause) :
    (s.port p).TornDown ((s.startTeardown p cause).port p) := by
  rw [startTeardown_eq]
  obtain ⟨⟨-, hstate⟩, -⟩ := endTeardownIfEmpty_same (s.tornDown p cause) p
  refine ⟨?_, h, ?_, ?_⟩
  · rw [requests_endTeardownIfEmpty, requests_tornDown]
  · rw [hstate, session_tornDown]
    split
    · rcases endState_eq { (s.port p).session with state := .teardown, cause := some cause } with h | h <;>
        rw [h] <;> rfl
    · rfl
  · rw [refusals_endTeardownIfEmpty, transmit_tornDown]
    rfl

theorem startTeardown_spares {s : State} {p q : Port} (hq : q ≠ p) (h : s.inSession q = true)
    (cause : TeardownCause) : Spares p s (s.startTeardown q cause) := by
  have htorn := startTeardown_torn s q cause
  refine ⟨by rw [(htorn.others p hq.symm).requests], fun x _ => ?_⟩
  by_cases hxq : x = q
  · subst hxq
    exact .inr (startTeardown_tornDown h cause)
  · exact .inl (htorn.others x hxq).untouched

/-! ### The actions -/

theorem alloc_spares (s : State) (p : Port) (x : List Byte) : Spares p s (s.alloc p x).state := by
  unfold State.alloc
  simp only
  split
  · exact .refl p s
  · split
    · exact .refl p s
    · split
      · exact .refl p s
      · split
        · exact .refl p s
        · exact ((take_quiet s p _).settles.trans (mapFrames_settles _ p _ _)).spares p

theorem release_spares (s : State) (p : Port) (x : List Byte) : Spares p s (s.release p x).state := by
  unfold State.release
  simp only
  split
  · exact .refl p s
  · split
    · exact .refl p s
    · exact (releasePages_settles s p _).spares p

theorem offerMapping_spares (s : State) (p target : Port) (page : Nat) (rights : Rights) (m : Mapping) :
    Spares p s (s.offerMapping p target page rights m).state := by
  unfold State.offerMapping
  split
  · exact .refl p s
  · split
    · exact .refl p s
    · split
      · exact .refl p s
      · split
        · exact .refl p s
        · split
          · exact .refl p s
          · exact (createOffer_settles s _).spares p

theorem offer_spares (s : State) (p : Port) (x : List Byte) : Spares p s (s.offer p x).state := by
  unfold State.offer
  simp only
  split
  · exact .refl p s
  · split
    · split
      · exact .refl p s
      · split
        · exact offerMapping_spares s p _ _ _ _
        · exact .refl p s
    · exact .refl p s
    · exact .refl p s

theorem acceptOffer_spares (s : State) (p : Port) (x : List Byte) : Spares p s (s.acceptOffer p x).state := by
  unfold State.acceptOffer
  simp only
  split
  · exact .refl p s
  · split
    · exact .refl p s
    · split
      · exact .refl p s
      · split
        · exact .refl p s
        · exact (((removeOffer_settles s _).trans (mapAccepted_settles _ p _ _)).trans
            (raiseNotice_quiet _ _ _).settles).spares p

theorem declineOffer_spares (s : State) (p : Port) (x : List Byte) : Spares p s (s.declineOffer p x).state := by
  unfold State.declineOffer
  simp only
  split
  · exact .refl p s
  · exact ((removeOffer_settles s _).trans (raiseNotice_quiet _ _ _).settles).spares p

theorem withdrawOffer_spares (s : State) (p : Port) (x : List Byte) : Spares p s (s.withdrawOffer p x).state := by
  unfold State.withdrawOffer
  simp only
  split
  · exact .refl p s
  · exact ((removeOffer_settles s _).trans (raiseNotice_quiet _ _ _).settles).spares p

theorem setOrder_spares (s : State) (p : Port) (x : List Byte) : Spares p s (s.setOrder p x).state := by
  unfold State.setOrder
  simp only
  split
  · split
    · simp only [Answer.ok]
      exact modRequests_spares s p rfl
    · exact .refl p s
  · exact .refl p s

theorem giveRole_spares (s : State) (p q : Port) : Spares p s (s.giveRole q) :=
  Spares.trans (t := { s with role := .held q }) (spares_of_ports (by rfl) p) ((raiseAdminChanged_quiet _ _).spares p)

theorem openSession_spares (s : State) (p : Port) : Spares p s (s.openSession p).state := by
  have hopened := (modSession_spares s p (q := p) (g := fun c => { c with state := .opened }) (absurd rfl)).trans
    (modRequests_spares _ p (g := fun r => { r with nextExpedited := 0, nextOrdinary := 0 }) rfl)
  unfold State.openSession
  simp only [Answer.ok]
  refine Spares.trans ?_ ((raisePortState_quiet _ _ _ _).spares p)
  split
  · exact hopened.trans (giveRole_spares _ p p)
  · exact hopened

theorem claimAdmin_spares (s : State) (p : Port) : Spares p s (s.claimAdmin p).state := by
  unfold State.claimAdmin
  split
  · exact giveRole_spares s p p
  · split <;> exact .refl p s
  · exact .refl p s

theorem handAdmin_spares (s : State) (p : Port) (x : List Byte) : Spares p s (s.handAdmin p x).state := by
  unfold State.handAdmin
  split
  · exact .refl p s
  · split
    · exact .refl p s
    · split
      · exact giveRole_spares s p _
      · exact .refl p s

theorem defineRegion_spares (s : State) (p : Port) (x : List Byte) : Spares p s (s.defineRegion x).state := by
  unfold State.defineRegion
  simp only
  split
  · exact .refl p s
  · split
    · exact .refl p s
    · split
      · exact .refl p s
      · simp only [Answer.ok]
        exact (modRegion_quiet s _ _).spares p

theorem undefineRegion_spares (s : State) (p : Port) (x : List Byte) :
    Spares p s (s.undefineRegion x).state := by
  unfold State.undefineRegion
  split
  · exact .refl p s
  · split
    · simp only [Answer.ok]
      exact (modRegion_quiet s _ _).spares p
    · exact .refl p s

theorem onlineRegion_spares (s : State) (p : Port) (x : List Byte) : Spares p s (s.onlineRegion x).state := by
  unfold State.onlineRegion
  split
  · exact .refl p s
  · split
    · exact (bringOnline_quiet s _).spares p
    · exact .refl p s

theorem retireRequest_spares (s : State) (p : Port) (x : List Byte) :
    Spares p s (s.retireRequest x).state := by
  unfold State.retireRequest
  split
  · exact .refl p s
  · split
    · exact (startDrain_quiet s _ _).spares p
    · exact .refl p s

theorem setQuota_spares (s : State) (p : Port) (x : List Byte) : Spares p s (s.setQuota x).state := by
  unfold State.setQuota
  simp only
  split
  · exact .refl p s
  · split
    · exact .refl p s
    · split
      · exact .refl p s
      · exact ⟨by simp [Answer.ok], fun q _ => .inl ⟨by simp [Answer.ok], by simp [Answer.ok], by simp [Answer.ok]⟩⟩

theorem setWeight_spares (s : State) (p : Port) (x : List Byte) : Spares p s (s.setWeight x).state := by
  unfold State.setWeight
  simp only
  split
  · refine spares_of_ports ?_ p
    rfl
  · exact .refl p s

theorem setOfferLife_spares (s : State) (p : Port) (v : Nat) : Spares p s (s.setOfferLife v).state := by
  unfold State.setOfferLife
  split
  · refine spares_of_ports ?_ p
    rfl
  · exact .refl p s

theorem setHoldLimit_spares (s : State) (p : Port) (v : Nat) : Spares p s (s.setHoldLimit v).state := by
  unfold State.setHoldLimit
  split
  · refine spares_of_ports ?_ p
    rfl
  · exact .refl p s

theorem setErrorLimit_spares (s : State) (p : Port) (v : Nat) : Spares p s (s.setErrorLimit v).state := by
  unfold State.setErrorLimit
  split
  · refine spares_of_ports ?_ p
    rfl
  · exact .refl p s

theorem setReplayTimeout_spares (s : State) (p : Port) (v : Nat) :
    Spares p s (s.setReplayTimeout v).state := by
  unfold State.setReplayTimeout
  split
  · refine spares_of_ports ?_ p
    rfl
  · exact .refl p s

theorem disable_spares (s : State) {p q : Port} (hq : q ≠ p) : Spares p s (s.disable q) := by
  unfold State.disable
  split
  · rename_i hstate
    exact startTeardown_spares hq (by rw [State.inSession, hstate]; rfl) _
  · rename_i hstate
    exact startTeardown_spares hq (by rw [State.inSession, hstate]; rfl) _
  · exact modSession_spares s p fun _ => rfl
  · rename_i hstate
    exact (modSession_spares s p fun _ => by rw [hstate]; rfl).trans ((raisePortState_quiet _ _ _ _).spares p)
  · exact .refl p s

theorem disablePort_spares (s : State) (p : Port) (x : List Byte) : Spares p s (s.disablePort p x).state := by
  unfold State.disablePort
  split
  · exact .refl p s
  · split
    · exact .refl p s
    · rename_i hq
      simp only [State.portAnswer, Answer.ok]
      exact disable_spares s hq

theorem enablePort_spares (s : State) (p : Port) (x : List Byte) : Spares p s (s.enablePort x).state := by
  unfold State.enablePort
  split
  · exact .refl p s
  · split
    · rename_i hstate
      simp only [State.portAnswer, Answer.ok]
      exact (modSession_spares s p fun _ => by rw [hstate]; rfl).trans ((raisePortState_quiet _ _ _ _).spares p)
    · exact .refl p s

theorem evictPort_spares (s : State) (p : Port) (x : List Byte) : Spares p s (s.evictPort p x).state := by
  unfold State.evictPort
  split
  · exact .refl p s
  · split
    · exact .refl p s
    · rename_i hq
      split
      · rename_i hin
        simp only [State.portAnswer, Answer.ok]
        exact startTeardown_spares hq hin _
      · exact .refl p s

/-! ### The shape of an acceptance -/

/-- The request acts, and its entry joins the port's queue with its write lines reserved. -/
structure Joins (p : Port) (k : RequestKind) (s t : State) : Prop where
  shape : ∃ u e, t = u.enqueue p e ∧ Acted p k s u ∧ (∀ q, q ≠ p → (s.port q).Beside (u.port q)) ∧
    (u.port p).requests.reservedLines = (s.port p).requests.reservedLines + e.heldLines ∧
    (e.state = .waiting ∨ e.state = .done) ∧ (e.state = .done ↔ e.result.isSome = true)

/-- An entry without a translation holds no write lines. -/
theorem Joins.unclaimed {p : Port} {k : RequestKind} {s u : State} {e : Entry} (hacted : Acted p k s u)
    (hspares : Spares p s u) (htranslation : e.translation = none)
    (hstate : e.state = .waiting ∨ e.state = .done) (hresult : e.state = .done ↔ e.result.isSome = true) :
    Joins p k s (u.enqueue p e) :=
  ⟨u, e, rfl, hacted, hspares.others, by simp only [Entry.heldLines, htranslation]; exact hspares.reserved,
    hstate, hresult⟩

theorem acceptDone_joins {s : State} {p : Port} {k : RequestKind} {f : RequestFrame} {act : State → Answer}
    (hacted : Acted p k s (act s).state) (hspares : Spares p s (act s).state) :
    Joins p k s (s.acceptDone p k f act) :=
  .unclaimed hacted hspares rfl (.inr rfl) (by simp)

theorem acceptBarrier_joins {s u : State} {p : Port} {k : RequestKind} {f : RequestFrame}
    (hacted : Acted p k s u) (hspares : Spares p s u) : Joins p k s (u.acceptBarrier p k f) := by
  unfold State.acceptBarrier
  simp only
  split
  · exact .unclaimed hacted hspares rfl (.inr rfl) (by simp)
  · exact .unclaimed hacted hspares rfl (.inl rfl) (by simp [State.newEntry])

theorem acceptRead_joins (s : State) (p : Port) (f : RequestFrame) : Joins p .read s (s.acceptRead p f) := by
  unfold State.acceptRead
  simp only
  split
  · exact .unclaimed (.refl _ _ s) (.refl p s) rfl (.inr rfl) (by simp)
  · have hpinned := pin_quiet s
    rename_i t _
    exact ⟨_, _, rfl, (hpinned t.frame).acted p _, ((hpinned t.frame).spares p).others,
      ((hpinned t.frame).spares p).reserved, .inl rfl, by simp [State.newEntry]⟩

theorem acceptWrite_joins (s : State) (p : Port) (f : RequestFrame) : Joins p .write s (s.acceptWrite p f) := by
  unfold State.acceptWrite
  simp only
  split
  · exact .unclaimed (.refl _ _ s) (.refl p s) rfl (.inr rfl) (by simp)
  · refine ⟨_, _, rfl, ?_, fun q hq => ?_, ?_, .inl rfl, by simp [State.newEntry]⟩
    · refine ⟨fun q => ?_, fun q => ?_, ?_, fun _ c => ?_, rfl, rfl, rfl, rfl, rfl, rfl, rfl, rfl⟩
      · simp
      · simp
      · simp
      · cases c <;> simp [RequestUnit.nextNumber]
    · rw [port_modRequests_ne _ hq]
      exact .refl _
    · rw [requests_modRequests_same]
      simp [Entry.heldLines, Entry.isWrite, State.newEntry]

/-! ### The shape of a sequenced frame -/

/-- The command is the arrival of a request of the port. -/
def Arrives (c : Instr) (p : Port) : Prop :=
  ∃ k f accept, (∀ s, exec c s = whenRunning s (s.requestArrives p k f accept)) ∧
    ∀ s, Joins p k s (accept s)

theorem Arrives.acting {c : Instr} {p : Port} {k : RequestKind} {f : RequestFrame} {act : State → Answer}
    (hexec : ∀ s, exec c s = whenRunning s (s.requestArrives p k f fun t => t.acceptDone p k f act))
    (hacted : ∀ s, Acted p k s (act s).state) (hspares : ∀ s, Spares p s (act s).state) : Arrives c p :=
  ⟨k, f, _, hexec, fun s => acceptDone_joins (hacted s) (hspares s)⟩

theorem Arrives.administrative {c : Instr} {p : Port} {k : RequestKind} {f : RequestFrame} {act : State → Answer}
    (hexec : ∀ s, exec c s = whenRunning s (s.requestArrives p k f fun t =>
      t.acceptDone p k f fun u => u.administrative p act))
    (hacted : ∀ s, Acted p k s (act s).state) (hspares : ∀ s, Spares p s (act s).state) : Arrives c p := by
  refine .acting hexec (fun s => administrative_acted (hacted s)) fun s => ?_
  unfold State.administrative
  split
  · exact hspares s
  · exact .refl p s

/-- A sequenced frame is of unknown kind, or a request's arrival. -/
theorem arrives_of_sequenced {c : Instr} {p : Port} {code : Byte} {f : RequestFrame}
    (h : c.sequenced = some (p, code, f)) : c = .unknownRequestKind p code f ∨ Arrives c p := by
  cases c with
  | unknownRequestKind p k f => cases h; exact .inl rfl
  | openSession p f => cases h; exact .inr (.acting (fun _ => rfl) (openSession_acted · p) (openSession_spares · p))
  | closeSession p f =>
    cases h
    exact .inr ⟨_, f, _, fun _ => rfl, fun s =>
      acceptBarrier_joins (modSession_acted s p p _ _) (modSession_spares s p (absurd rfl))⟩
  | setOrder p f => cases h; exact .inr (.acting (fun _ => rfl) (setOrder_acted · p _) (setOrder_spares · p _))
  | read p f => cases h; exact .inr ⟨_, f, _, fun _ => rfl, fun s => acceptRead_joins s p f⟩
  | write p f => cases h; exact .inr ⟨_, f, _, fun _ => rfl, fun s => acceptWrite_joins s p f⟩
  | fence p f =>
    cases h
    exact .inr ⟨_, f, _, fun _ => rfl, fun s => acceptBarrier_joins (.refl _ _ s) (.refl p s)⟩
  | alloc p f => cases h; exact .inr (.acting (fun _ => rfl) (alloc_acted · p _) (alloc_spares · p _))
  | release p f => cases h; exact .inr (.acting (fun _ => rfl) (release_acted · p _) (release_spares · p _))
  | offer p f => cases h; exact .inr (.acting (fun _ => rfl) (offer_acted · p _) (offer_spares · p _))
  | accept p f => cases h; exact .inr (.acting (fun _ => rfl) (acceptOffer_acted · p _) (acceptOffer_spares · p _))
  | decline p f =>
    cases h; exact .inr (.acting (fun _ => rfl) (declineOffer_acted · p _) (declineOffer_spares · p _))
  | withdraw p f =>
    cases h; exact .inr (.acting (fun _ => rfl) (withdrawOffer_acted · p _) (withdrawOffer_spares · p _))
  | queryPort p f =>
    cases h
    exact .inr (.acting (fun _ => rfl) (queryPort_acted · p _) fun s => by rw [state_queryPort]; exact .refl p s)
  | queryPage p f =>
    cases h
    exact .inr (.acting (fun _ => rfl) (queryPage_acted · p _) fun s => by rw [state_queryPage]; exact .refl p s)
  | queryPool p f => cases h; exact .inr (.acting (fun _ => rfl) (.refl p _ ·) (.refl p ·))
  | queryFrame p f =>
    cases h
    exact .inr (.acting (fun _ => rfl) (queryFrame_acted · p _) fun s => by rw [state_queryFrame]; exact .refl p s)
  | claimAdmin p f => cases h; exact .inr (.acting (fun _ => rfl) (claimAdmin_acted · p) (claimAdmin_spares · p))
  | handAdmin p f =>
    cases h; exact .inr (.administrative (fun _ => rfl) (handAdmin_acted · p _) (handAdmin_spares · p _))
  | defineRegion p f =>
    cases h; exact .inr (.administrative (fun _ => rfl) (defineRegion_acted · p _) (defineRegion_spares · p _))
  | undefineRegion p f =>
    cases h; exact .inr (.administrative (fun _ => rfl) (undefineRegion_acted · p _) (undefineRegion_spares · p _))
  | onlineRegion p f =>
    cases h; exact .inr (.administrative (fun _ => rfl) (onlineRegion_acted · p _) (onlineRegion_spares · p _))
  | retireRegion p f =>
    cases h; exact .inr (.administrative (fun _ => rfl) (retireRequest_acted · p _) (retireRequest_spares · p _))
  | setQuota p f =>
    cases h; exact .inr (.administrative (fun _ => rfl) (setQuota_acted · p _) (setQuota_spares · p _))
  | setWeight p f =>
    cases h; exact .inr (.administrative (fun _ => rfl) (setWeight_acted · p _) (setWeight_spares · p _))
  | setLimitOfferLife p f =>
    cases h; exact .inr (.administrative (fun _ => rfl) (setOfferLife_acted · p _) (setOfferLife_spares · p _))
  | setLimitHoldLimit p f =>
    cases h; exact .inr (.administrative (fun _ => rfl) (setHoldLimit_acted · p _) (setHoldLimit_spares · p _))
  | setLimitErrorLimit p f =>
    cases h; exact .inr (.administrative (fun _ => rfl) (setErrorLimit_acted · p _) (setErrorLimit_spares · p _))
  | setLimitReplayTimeout p f =>
    cases h
    exact .inr (.administrative (fun _ => rfl) (setReplayTimeout_acted · p _) (setReplayTimeout_spares · p _))
  | disablePort p f =>
    cases h; exact .inr (.administrative (fun _ => rfl) (disablePort_acted · p _) (disablePort_spares · p _))
  | enablePort p f =>
    cases h; exact .inr (.administrative (fun _ => rfl) (enablePort_acted · p _) (enablePort_spares · p _))
  | evictPort p f =>
    cases h; exact .inr (.administrative (fun _ => rfl) (evictPort_acted · p _) (evictPort_spares · p _))
  | _ => cases h

/-! ### A frame from the host (R165 to R167) -/

/-- A frame of unknown kind is refused, waits, or changes the link alone. -/
theorem unknownArrives_induct {s : State} {p : Port} {f : RequestFrame} {P : State → Prop} (h0 : P s)
    (hlink : ∀ u g, P u → P (u.modLink p g))
    (hrefuse : ∀ u r, P u → P (u.modTransmit p fun t => { t with refusals := t.refusals ++ [r] })) :
    P (s.receiveSequenced p f.seq fun t => t.refuse p f .malformed) := by
  have hoffered : ∀ u : State, P u → P (u.offerInSequence p f.seq fun t => t.refuse p f .malformed) := by
    intro u hu
    unfold State.offerInSequence State.refuse
    by_cases hroom : (u.port p).transmit.refusals.length < Config.refusalPlaces
    · simp only [hroom, if_true]
      exact hlink _ _ (hrefuse _ _ hu)
    · simp only [hroom, if_false]
      exact hlink _ _ hu
  unfold State.receiveSequenced State.sequencedIntoUp State.sequencedInUp
  split
  · exact h0
  · exact h0
  · split
    · exact hoffered _ (hlink _ _ h0)
    · exact hlink _ _ (hlink _ _ h0)
  · split
    · exact hoffered s h0
    · exact hlink _ _ h0
    · exact hlink _ _ h0

/-- Memory and its channel, the time, the commands that wait and the frames sent are as before, and each other port's link;
and each other port stands beside. -/
structure FromHost (p : Port) (s t : State) : Prop where
  dram : t.dram = s.dram
  inFlight : t.inFlight = s.inFlight
  holder : t.scheduler.holder = s.scheduler.holder
  turnLines : t.scheduler.turnLines = s.scheduler.turnLines
  now : t.now = s.now
  freeIndex : t.freeIndex = s.freeIndex
  resetLow : t.resetLow = s.resetLow
  pending : t.pending = s.pending
  sent : ∀ q, (t.port q).sent = (s.port q).sent
  links : ∀ q, q ≠ p → (t.port q).link = (s.port q).link
  others : ∀ q, q ≠ p → (s.port q).Beside (t.port q)

theorem FromHost.refl (p : Port) (s : State) : FromHost p s s :=
  ⟨rfl, rfl, rfl, rfl, rfl, rfl, rfl, rfl, fun _ => rfl, fun _ _ => rfl, fun _ _ => .refl _⟩

theorem FromHost.trans {p : Port} {s t u : State} (h : FromHost p s t) (g : FromHost p t u) : FromHost p s u :=
  ⟨g.dram.trans h.dram, g.inFlight.trans h.inFlight, g.holder.trans h.holder, g.turnLines.trans h.turnLines,
    g.now.trans h.now, g.freeIndex.trans h.freeIndex, g.resetLow.trans h.resetLow, g.pending.trans h.pending,
    fun q => (g.sent q).trans (h.sent q), fun q hq => (g.links q hq).trans (h.links q hq),
    fun q hq => (h.others q hq).trans (g.others q hq)⟩

/-- A change of the port itself. -/
theorem FromHost.of_modPort (s : State) (p : Port) {g : PortState → PortState}
    (hsent : (g (s.port p)).sent = (s.port p).sent) : FromHost p s (s.modPort p g) := by
  have hport : ∀ q, q ≠ p → (s.modPort p g).port q = s.port q := fun q hq => port_modPort_ne s hq g
  refine ⟨rfl, rfl, rfl, rfl, rfl, rfl, rfl, rfl, fun q => ?_, fun q hq => by rw [hport q hq],
    fun q hq => by rw [hport q hq]; exact .refl _⟩
  by_cases hq : q = p
  · subst hq; rw [port_modPort_same, hsent]
  · rw [hport q hq]

theorem FromHost.of_modRequests (s : State) (p : Port) (g : RequestUnit → RequestUnit) :
    FromHost p s (s.modRequests p g) :=
  .of_modPort s p rfl

theorem FromHost.enqueue (s : State) (p : Port) (e : Entry) : FromHost p s (s.enqueue p e) := by
  unfold State.enqueue State.present
  exact (FromHost.of_modRequests s p _).trans (.of_modRequests _ p _)

theorem Joins.fromHost {p : Port} {k : RequestKind} {s t : State} (h : Joins p k s t) : FromHost p s t := by
  obtain ⟨u, e, rfl, hacted, hothers, -, -, -⟩ := h.shape
  exact FromHost.trans ⟨hacted.dram, hacted.inFlight, hacted.holder, hacted.turnLines, hacted.now, hacted.freeIndex,
    hacted.resetLow, hacted.pending, hacted.sent, fun q _ => hacted.links q, hothers⟩ (.enqueue u p e)

theorem fromHost_of_sequenced {c : Instr} {p : Port} {code : Byte} {f : RequestFrame} {s t : State}
    (hseq : c.sequenced = some (p, code, f)) (ht : exec c s = .next t) : FromHost p s t := by
  have hlink : ∀ u g, FromHost p s u → FromHost p s (u.modLink p g) := fun u g hu => hu.trans (.of_modPort u p rfl)
  have hrefuse : ∀ u r, FromHost p s u →
      FromHost p s (u.modTransmit p fun t => { t with refusals := t.refusals ++ [r] }) :=
    fun u r hu => hu.trans (.of_modPort u p rfl)
  rcases arrives_of_sequenced hseq with rfl | ⟨k, f, accept, hexec, hjoins⟩
  · have hnext := (whenRunning_eq_next (s := s)).1 ht
    rw [hnext]
    split
    · exact .refl p s
    · exact unknownArrives_induct (.refl p s) hlink hrefuse
  · rw [hexec, whenRunning_eq_next] at ht
    rw [ht]
    split
    · exact .refl p s
    · exact requestArrives_induct (.refl p s) (fun _ => hlink _ _ (.refl p s)) (fun _ => hlink _ _)
        (fun _ => hlink _ _) (fun _ => hlink _ _) (fun _ _ hu _ => hrefuse _ _ hu)
        fun u hu _ => hu.trans (hjoins u).fromHost

/-- Settles O52: what a host's frame leaves alone; the refusals of another port go with its session only. -/
theorem hostFramesLeaveMemoryAndOtherLinksAlone : Obligations.HostFramesLeaveMemoryAndOtherLinksAlone := by
  intro c p k f s t hseq ht
  have h := fromHost_of_sequenced hseq ht
  refine ⟨h.dram, h.inFlight, h.holder, h.turnLines, h.now, h.freeIndex, h.resetLow, h.pending, h.sent,
    fun q hq => ⟨h.links q hq, ?_⟩⟩
  rcases h.others q hq with hsame | htorn
  · rw [hsame.refusals, State.inSession, State.inSession, hsame.inSession, if_neg]
    rintro ⟨hin, hout⟩
    rw [hin] at hout
    cases hout
  · rw [htorn.refusals, if_pos ⟨htorn.before, htorn.after⟩]

end Sys2Proof.Machine
end

section
/-! SUPPORT. The entries of a port, their write lines and the operation in flight (R77, R94, R118): what each operation of
a Request Unit does to them. -/

namespace Sys2Proof.Machine

/-! ### Sums over entries -/

/-- The sum of a weight over entries. -/
def tally (w : Entry → Nat) (es : List Entry) : Nat := (es.map w).sum

@[simp] theorem tally_nil (w : Entry → Nat) : tally w [] = 0 := rfl

@[simp] theorem tally_cons (w : Entry → Nat) (e : Entry) (es : List Entry) :
    tally w (e :: es) = w e + tally w es := by simp [tally]

@[simp] theorem tally_append (w : Entry → Nat) (es fs : List Entry) :
    tally w (es ++ fs) = tally w es + tally w fs := by simp [tally]

theorem tally_eq_zero_iff {w : Entry → Nat} {es : List Entry} : tally w es = 0 ↔ ∀ e ∈ es, w e = 0 := by
  simp [tally, List.sum_eq_zero_iff]

theorem length_filter_eq_tally (P : Entry → Bool) (es : List Entry) :
    (es.filter P).length = tally (fun e => if P e = true then 1 else 0) es := by
  induction es with
  | nil => rfl
  | cons e es ih =>
    rw [tally_cons, ← ih]
    cases h : P e <;> simp [h, Nat.add_comm]

/-- 1 for a PRESENTED entry. -/
def Entry.presentedWeight (e : Entry) : Nat := if (e.state == .presented) = true then 1 else 0

/-- 1 for an entry IN_MEMORY. -/
def Entry.memoryWeight (e : Entry) : Nat := if e.inMem = true then 1 else 0

theorem presentedWeight_eq_zero {e : Entry} (h : e.state ≠ .presented) : e.presentedWeight = 0 := by
  simp [Entry.presentedWeight, h]

theorem memoryWeight_eq_zero_iff {e : Entry} : e.memoryWeight = 0 ↔ e.state ≠ .inMemory := by
  simp [Entry.memoryWeight, Entry.inMem]

theorem memoryWeight_of_inMemory {e : Entry} (h : e.state = .inMemory) : e.memoryWeight = 1 := by
  simp [Entry.memoryWeight, Entry.inMem, h]

/-- The oldest entry IN_MEMORY, where there is one. -/
theorem exists_inMemory {es : List Entry} (h : tally Entry.memoryWeight es ≠ 0) :
    ∃ older e younger, es = older ++ e :: younger ∧ e.state = .inMemory ∧ ∀ x ∈ older, x.state ≠ .inMemory := by
  cases hfind : es.find? Entry.inMem with
  | none =>
    rw [List.find?_eq_none] at hfind
    exact absurd (tally_eq_zero_iff.2 fun e he =>
      memoryWeight_eq_zero_iff.2 (by simpa [Entry.inMem] using hfind e he)) h
  | some e =>
    obtain ⟨he, older, younger, hes, holder⟩ := List.find?_eq_some_iff_append.1 hfind
    exact ⟨older, e, younger, hes, by simpa [Entry.inMem] using he,
      fun x hx => by simpa [Entry.inMem] using holder x hx⟩

/-- Until it is DONE an entry holds its lines in every state; DONE it holds none. -/
theorem heldLines_congr {e e' : Entry} (hkind : e'.kind = e.kind) (htranslation : e'.translation = e.translation)
    (hstate : e'.state ≠ .done) (hold : e.state ≠ .done) : e'.heldLines = e.heldLines := by
  unfold Entry.heldLines Entry.isWrite
  rw [hkind, htranslation]
  cases e.translation with
  | none => rfl
  | some tr => simp [hstate, hold]

theorem heldLines_done {e : Entry} (h : e.state = .done) : e.heldLines = 0 := by
  unfold Entry.heldLines
  split <;> simp [h]

/-! ### The ledger of a Request Unit -/

/-- An entry beside the port's operation in flight. -/
structure Entry.Sound (p : Port) (flight : Option Operation) (e : Entry) : Prop where
  data : e.state = .presented ∨ e.state = .inMemory → e.translation.isSome = true
  result : e.state = .done ↔ e.result.isSome = true
  operation : e.state = .inMemory → e.operation p = flight

/-- The entries and the reserved write lines of a port beside its operation in flight. -/
structure RequestUnit.Ledger (p : Port) (flight : Option Operation) (r : RequestUnit) : Prop where
  sound : ∀ e ∈ r.entries, e.Sound p flight
  presented : tally Entry.presentedWeight r.entries ≤ 1
  inMemory : tally Entry.memoryWeight r.entries = flight.toList.length
  reserved : r.reservedLines = tally Entry.heldLines r.entries

/-- Beside an operation in flight or none an entry that is not IN_MEMORY is as sound. -/
theorem Entry.Sound.elsewhere {p : Port} {flight : Option Operation} {e : Entry} (h : e.Sound p flight)
    (hstate : e.state ≠ .inMemory) (flight' : Option Operation) : e.Sound p flight' :=
  ⟨h.data, h.result, fun hin => absurd hin hstate⟩

/-- An entry that is DONE with a result is sound. -/
theorem Entry.Sound.of_done {p : Port} {flight : Option Operation} {e : Entry} (hstate : e.state = .done)
    (hresult : e.result.isSome = true) : e.Sound p flight :=
  ⟨by simp [hstate], by simp [hstate, hresult], by simp [hstate]⟩

theorem RequestUnit.Ledger.congr {p : Port} {flight : Option Operation} {r r' : RequestUnit}
    (h : r.Ledger p flight) (hentries : r'.entries = r.entries) (hlines : r'.reservedLines = r.reservedLines) :
    r'.Ledger p flight := by
  obtain ⟨hsound, hpresented, hmemory, hreserved⟩ := h
  exact ⟨by rwa [hentries], by rwa [hentries], by rwa [hentries], by rw [hlines, hentries, hreserved]⟩

section
variable {p : Port} {flight : Option Operation} {r : RequestUnit} (h : r.Ledger p flight)
include h

/-- A waiting data entry is PRESENTED where none was (R106). -/
theorem RequestUnit.Ledger.present (st : SessionState) : (r.present st).Ledger p flight := by
  rcases present_spec r st with hsame | ⟨older, e, younger, hentries, hwaiting, hdata, -, hnone, -, hpresent⟩
  · rw [hsame]; exact h
  · obtain ⟨hsound, hpresented, hmemory, hreserved⟩ := h
    have habsent : tally Entry.presentedWeight r.entries = 0 := by
      rw [tally_eq_zero_iff]
      rw [RequestUnit.presentedEntry, List.find?_eq_none] at hnone
      exact fun x hx => presentedWeight_eq_zero (by simpa using hnone x hx)
    rw [hentries] at hsound habsent hmemory hreserved
    have he : e.Sound p flight := hsound e (by simp)
    have hlines : ({ e with state := .presented } : Entry).heldLines = e.heldLines :=
      heldLines_congr rfl rfl (by simp) (by simp [hwaiting])
    rw [hpresent]
    refine ⟨fun x hx => ?_, ?_, ?_, ?_⟩
    · rcases List.mem_append.1 hx with hx | hx
      · exact hsound x (by simp [hx])
      · rcases List.mem_cons.1 hx with rfl | hx
        · refine ⟨fun _ => hdata, ?_, by simp⟩
          have hresult := he.result
          rw [hwaiting] at hresult
          simpa using hresult
        · exact hsound x (by simp [hx])
    · simp only [tally_append, tally_cons, Entry.presentedWeight] at habsent ⊢
      simp only [beq_self_eq_true, if_true]
      omega
    · simpa [Entry.memoryWeight, Entry.inMem, hwaiting] using hmemory
    · simpa [hlines] using hreserved

/-- A new entry joins, with its lines reserved (R90, R94). -/
theorem RequestUnit.Ledger.accepted {r' : RequestUnit} {e : Entry} (hentries : r'.entries = r.entries)
    (hlines : r'.reservedLines = r.reservedLines + e.heldLines) (hstate : e.state = .waiting ∨ e.state = .done)
    (hresult : e.state = .done ↔ e.result.isSome = true) : (r'.accepted e).Ledger p flight := by
  obtain ⟨hsound, hpresented, hmemory, hreserved⟩ := h
  have hadvance : (r'.advance e.cls).reservedLines = r'.reservedLines := by cases e.cls <;> rfl
  have hnot : e.state ≠ .presented ∧ e.state ≠ .inMemory := by rcases hstate with h | h <;> simp [h]
  have hweights : e.presentedWeight = 0 ∧ e.memoryWeight = 0 :=
    ⟨presentedWeight_eq_zero hnot.1, memoryWeight_eq_zero_iff.2 hnot.2⟩
  unfold RequestUnit.accepted
  rw [hentries]
  refine ⟨fun x hx => ?_, ?_, ?_, ?_⟩
  · rcases List.mem_append.1 hx with hx | hx
    · exact hsound x hx
    · rw [List.mem_singleton.1 hx]
      exact ⟨by simp [hnot.1, hnot.2], hresult, fun hin => absurd hin hnot.2⟩
  · simpa [hweights.1] using hpresented
  · simpa [hweights.2] using hmemory
  · simp only [tally_append, tally_cons, tally_nil, hadvance, hlines, hreserved, Nat.add_zero]

section
variable {older younger : List Entry} {e : Entry} (hentries : r.entries = older ++ e :: younger)
include hentries

/-- The presented entry goes to memory (R108). -/
theorem RequestUnit.Ledger.granted (hflight : flight = none) (he : e.state = .presented) :
    ({ r with entries := older ++ { e with state := .inMemory } :: younger } : RequestUnit).Ledger p
      (e.operation p) := by
  obtain ⟨hsound, hpresented, hmemory, hreserved⟩ := h
  have hdata := (hsound e (by simp [hentries])).data (.inl he)
  have hresult := (hsound e (by simp [hentries])).result
  rw [hflight] at hmemory
  have habsent := tally_eq_zero_iff.1 hmemory
  rw [hentries] at hsound hpresented hmemory hreserved habsent
  have hothers : ∀ x, x ∈ older ∨ x ∈ younger → x.Sound p (e.operation p) := fun x hx =>
    have hmem : x ∈ older ++ e :: younger := by rcases hx with hx | hx <;> simp [hx]
    (hsound x hmem).elsewhere (memoryWeight_eq_zero_iff.1 (habsent x hmem)) _
  have hlines : ({ e with state := .inMemory } : Entry).heldLines = e.heldLines :=
    heldLines_congr rfl rfl (by simp) (by simp [he])
  have hlength : (e.operation p).toList.length = 1 := by
    obtain ⟨tr, htr⟩ := Option.isSome_iff_exists.1 hdata
    simp [Entry.operation, htr]
  refine ⟨fun x hx => ?_, ?_, ?_, ?_⟩
  · rcases List.mem_append.1 hx with hx | hx
    · exact hothers x (.inl hx)
    · rcases List.mem_cons.1 hx with rfl | hx
      · refine ⟨fun _ => hdata, ?_, fun _ => rfl⟩
        rw [he] at hresult
        simpa using hresult
      · exact hothers x (.inr hx)
  · simp [Entry.presentedWeight] at hpresented ⊢
    omega
  · rw [hlength]
    simp [Entry.memoryWeight, Entry.inMem] at hmemory ⊢
    omega
  · simpa [hlines] using hreserved

/-- The entry IN_MEMORY is the only one, and the others are sound beside no operation. -/
theorem RequestUnit.Ledger.alone (he : e.state = .inMemory) {o : Operation} (hflight : flight = some o) :
    tally Entry.memoryWeight older = 0 ∧ tally Entry.memoryWeight younger = 0 ∧
      ∀ x, x ∈ older ∨ x ∈ younger → x.Sound p none := by
  obtain ⟨hsound, -, hmemory, -⟩ := h
  rw [hentries] at hmemory hsound
  simp only [hflight, tally_append, tally_cons, memoryWeight_of_inMemory he, Option.toList_some,
    List.length_singleton] at hmemory
  have holder : tally Entry.memoryWeight older = 0 := by omega
  have hyounger : tally Entry.memoryWeight younger = 0 := by omega
  refine ⟨holder, hyounger, fun x hx => ?_⟩
  rcases hx with hx | hx
  · exact (hsound x (by simp [hx])).elsewhere (memoryWeight_eq_zero_iff.1 (tally_eq_zero_iff.1 holder x hx)) _
  · exact (hsound x (by simp [hx])).elsewhere (memoryWeight_eq_zero_iff.1 (tally_eq_zero_iff.1 hyounger x hx)) _

/-- The entry IN_MEMORY is DONE, and its lines are freed (R109, R110). -/
theorem RequestUnit.Ledger.completed (he : e.state = .inMemory) {o : Operation} (hflight : flight = some o)
    {e' : Entry} (hstate : e'.state = .done) (hresult : e'.result.isSome = true) :
    ({ r with entries := older ++ e' :: younger, reservedLines := r.reservedLines - e.heldLines } :
      RequestUnit).Ledger p none := by
  obtain ⟨holder, hyounger, hothers⟩ := h.alone hentries he hflight
  obtain ⟨-, hpresented, -, hreserved⟩ := h
  rw [hentries] at hpresented hreserved
  have hweights : e'.presentedWeight = 0 ∧ e'.memoryWeight = 0 :=
    ⟨presentedWeight_eq_zero (by simp [hstate]), memoryWeight_eq_zero_iff.2 (by simp [hstate])⟩
  refine ⟨fun x hx => ?_, ?_, ?_, ?_⟩
  · rcases List.mem_append.1 hx with hx | hx
    · exact hothers x (.inl hx)
    · rcases List.mem_cons.1 hx with rfl | hx
      · exact .of_done hstate hresult
      · exact hothers x (.inr hx)
  · simp only [tally_append, tally_cons, hweights.1] at hpresented ⊢
    omega
  · simp [holder, hyounger, hweights.2]
  · simp only [tally_append, tally_cons, heldLines_done hstate] at hreserved ⊢
    omega

/-- The entry IN_MEMORY is discarded, and its lines are freed (R98). -/
theorem RequestUnit.Ledger.discarded (he : e.state = .inMemory) {o : Operation} (hflight : flight = some o) :
    ({ r with entries := older ++ younger, reservedLines := r.reservedLines - e.heldLines } :
      RequestUnit).Ledger p none := by
  obtain ⟨holder, hyounger, hothers⟩ := h.alone hentries he hflight
  obtain ⟨-, hpresented, -, hreserved⟩ := h
  rw [hentries] at hpresented hreserved
  refine ⟨fun x hx => hothers x (List.mem_append.1 hx), ?_, by simp [holder, hyounger], ?_⟩
  · simp only [tally_append, tally_cons] at hpresented ⊢
    omega
  · simp only [tally_append, tally_cons] at hreserved ⊢
    omega

/-- A DONE entry leaves (R138). -/
theorem RequestUnit.Ledger.left (he : e.state = .done) :
    ({ r with entries := older ++ younger } : RequestUnit).Ledger p flight := by
  obtain ⟨hsound, hpresented, hmemory, hreserved⟩ := h
  rw [hentries] at hsound hpresented hmemory hreserved
  have hweights : e.presentedWeight = 0 ∧ e.memoryWeight = 0 :=
    ⟨presentedWeight_eq_zero (by simp [he]), memoryWeight_eq_zero_iff.2 (by simp [he])⟩
  refine ⟨fun x hx => hsound x ?_, ?_, ?_, ?_⟩
  · rcases List.mem_append.1 hx with hx | hx <;> simp [hx]
  · simpa [hweights.1] using hpresented
  · simpa [hweights.2] using hmemory
  · simpa [heldLines_done he] using hreserved

end

end

/-! ### The barrier step (R111, R112) -/

/-- What the barrier step makes of an entry that is due. -/
def Entry.barrierDone (e : Entry) : Entry := { e with state := .done, result := some .ok }

theorem mem_barrierStep {b : Bool} {es : List Entry} {x : Entry} (h : x ∈ barrierStep b es) :
    x ∈ es ∨ ∃ e ∈ es, x = e.barrierDone := by
  induction es generalizing b with
  | nil => cases h
  | cons e es ih =>
    rw [barrierStep] at h
    rcases List.mem_cons.1 h with h | h
    · split at h
      · exact .inr ⟨e, List.mem_cons_self, h⟩
      · exact .inl (by simp [h])
    · rcases ih h with h | ⟨y, hy, h⟩
      · exact .inl (List.mem_cons_of_mem e h)
      · exact .inr ⟨y, List.mem_cons_of_mem e hy, h⟩

theorem tally_barrierStep {w : Entry → Nat}
    (hw : ∀ e : Entry, e.isBarrier = true → e.state = .waiting → w e.barrierDone = w e) (b : Bool)
    (es : List Entry) : tally w (barrierStep b es) = tally w es := by
  induction es generalizing b with
  | nil => rfl
  | cons e es ih =>
    rw [barrierStep, tally_cons, tally_cons, ih]
    split
    · rename_i hdue
      simp only [Bool.and_eq_true, beq_iff_eq] at hdue
      rw [← hw e hdue.1.2 hdue.2]
      rfl
    · rfl

theorem RequestUnit.Ledger.barrierStep {p : Port} {flight : Option Operation} {r : RequestUnit}
    (h : r.Ledger p flight) (b : Bool) :
    ({ r with entries := Machine.barrierStep b r.entries } : RequestUnit).Ledger p flight := by
  obtain ⟨hsound, hpresented, hmemory, hreserved⟩ := h
  refine ⟨fun x hx => ?_, ?_, ?_, ?_⟩
  · rcases mem_barrierStep hx with hx | ⟨e, -, rfl⟩
    · exact hsound x hx
    · exact .of_done rfl rfl
  · rw [tally_barrierStep]
    · exact hpresented
    · intro e _ hwaiting
      simp [Entry.presentedWeight, Entry.barrierDone, hwaiting]
  · rw [tally_barrierStep]
    · exact hmemory
    · intro e _ hwaiting
      simp [Entry.memoryWeight, Entry.inMem, Entry.barrierDone, hwaiting]
  · rw [tally_barrierStep]
    · exact hreserved
    · intro e hbarrier _
      have hnot : e.isWrite = false := by
        rcases (by simpa [Entry.isBarrier] using hbarrier : e.kind = .fence ∨ e.kind = .closeSession) with hk | hk <;>
          simp [Entry.isWrite, hk]
      rw [heldLines_done rfl, Entry.heldLines]
      split <;> simp [hnot]

/-! ### The start of a teardown (R97) -/

/-- What an entry holds a teardown frees, unless it is IN_MEMORY. -/
theorem heldLines_eq_droppedLines (e : Entry) :
    e.heldLines = e.droppedLines + if e.inMem = true then e.heldLines else 0 := by
  unfold Entry.heldLines Entry.droppedLines Entry.dropped Entry.inMem
  cases e.translation with
  | none => simp
  | some tr => cases e.state <;> simp

theorem tally_filter_inMem (w : Entry → Nat) (es : List Entry) :
    tally w (es.filter Entry.inMem) = tally (fun e => if e.inMem = true then w e else 0) es := by
  induction es with
  | nil => rfl
  | cons e es ih =>
    rw [tally_cons, ← ih]
    cases h : e.inMem <;> simp [h]

theorem RequestUnit.Ledger.tornDown {p : Port} {flight : Option Operation} {r : RequestUnit}
    (h : r.Ledger p flight) : r.tornDown.Ledger p flight := by
  obtain ⟨hsound, -, hmemory, hreserved⟩ := h
  have hkept : tally Entry.heldLines r.entries =
      tally Entry.droppedLines r.entries + tally Entry.heldLines (r.entries.filter Entry.inMem) := by
    rw [tally_filter_inMem, tally, tally, tally, ← List.sum_map_add]
    exact congrArg List.sum (List.map_congr_left fun e _ => heldLines_eq_droppedLines e)
  unfold RequestUnit.tornDown
  refine ⟨fun x hx => hsound x (List.mem_filter.1 hx).1, ?_, ?_, ?_⟩
  · rw [tally_eq_zero_iff.2]
    · exact Nat.zero_le 1
    · intro x hx
      have hin : x.state = .inMemory := by simpa [Entry.inMem] using (List.mem_filter.1 hx).2
      exact presentedWeight_eq_zero (by simp [hin])
  · rw [tally_filter_inMem, ← hmemory]
    refine congrArg List.sum (List.map_congr_left fun e _ => ?_)
    unfold Entry.memoryWeight
    split <;> rfl
  · change r.reservedLines - tally Entry.droppedLines r.entries = _
    rw [hreserved, hkept, Nat.add_sub_cancel_left]

end Sys2Proof.Machine
end

section
/-! SUPPORT. The write lines accounted (R94, R118): what each command keeps, and one step. -/

namespace Sys2Proof.Machine

/-! ### The operation of an entry (R106, R118) -/

theorem participant_of_operation {e : Entry} {p : Port} {o : Operation} (ho : e.operation p = some o) :
    o.participant = .port p := by
  unfold Entry.operation at ho
  split at ho
  · cases ho; rfl
  · cases ho

/-- The lines of a WRITE at memory are those of its operation, and a READ holds none (R94, R106). -/
theorem heldLines_of_operation {e : Entry} {p : Port} {o : Operation} (he : e.state = .inMemory)
    (ho : e.operation p = some o) : e.heldLines = if o.kind = .writeLines then o.lineCount else 0 := by
  unfold Entry.operation at ho
  unfold Entry.heldLines
  cases htr : e.translation with
  | none => simp [htr] at ho
  | some tr =>
    simp only [htr, Option.some.injEq] at ho
    subst ho
    cases hwrite : e.isWrite <;> simp [he]

/-! ### Every port's ledger -/

/-- The port's operation in flight. -/
def State.flightOf (s : State) (p : Port) : Option Operation :=
  s.inFlight.filter fun o => decide (o.participant = .port p)

theorem flightOf_none {s : State} (h : s.inFlight = none) (p : Port) : s.flightOf p = none := by
  rw [State.flightOf, h]; rfl

theorem flightOf_same {s : State} {p : Port} {o : Operation} (h : s.inFlight = some o)
    (hp : o.participant = .port p) : s.flightOf p = some o := by
  simp [State.flightOf, h, hp]

theorem flightOf_other {s : State} {p : Port} {o : Operation} (h : s.inFlight = some o)
    (hp : o.participant ≠ .port p) : s.flightOf p = none := by
  simp [State.flightOf, h, hp]

theorem flightOf_congr {s t : State} (h : t.inFlight = s.inFlight) (p : Port) : t.flightOf p = s.flightOf p := by
  rw [State.flightOf, State.flightOf, h]

/-- Each port's entries and write lines beside its operation in flight. -/
def State.Ledger (s : State) : Prop := ∀ p, (s.port p).requests.Ledger p (s.flightOf p)

theorem length_flightOf (s : State) (p : Port) :
    (s.flightOf p).toList.length = if (s.inFlight.map Operation.participant) = some (.port p) then 1 else 0 := by
  cases hflight : s.inFlight with
  | none => simp [flightOf_none hflight]
  | some o =>
    by_cases hp : o.participant = .port p
    · simp [flightOf_same hflight hp, hp]
    · simp [flightOf_other hflight hp, hp]

/-- The obligation's condition, port by port. -/
theorem ledger_iff (s : State) : s.Ledger ↔ s.WriteLinesAccounted := by
  constructor
  · intro h
    refine ⟨⟨fun p => ?_, fun p => ?_, fun p e he => ((h p).sound e he).data,
      fun p e he => ((h p).sound e he).result⟩, fun p => (h p).reserved, fun p o hflight hp => ?_⟩
    · rw [length_filter_eq_tally]
      exact (h p).presented
    · rw [length_filter_eq_tally, ← length_flightOf]
      exact (h p).inMemory
    · have hmemory := (h p).inMemory
      rw [flightOf_same hflight hp] at hmemory
      obtain ⟨older, e, younger, hentries, hin, -⟩ := exists_inMemory
        (es := (s.port p).requests.entries) (by simp [hmemory])
      have he : e ∈ (s.port p).requests.entries := by simp [hentries]
      refine ⟨e, he, by simp [Entry.inMem, hin], ?_⟩
      rw [((h p).sound e he).operation hin, flightOf_same hflight hp]
  · intro h p
    have hmemory : tally Entry.memoryWeight (s.port p).requests.entries = (s.flightOf p).toList.length := by
      have hcount := h.entries.inMemory p
      rw [length_filter_eq_tally, ← length_flightOf] at hcount
      exact hcount
    refine ⟨fun e he => ⟨h.entries.data p e he, h.entries.results p e he, fun hin => ?_⟩, ?_, hmemory, h.reserved p⟩
    · have hmem : e ∈ (s.port p).requests.entries.filter Entry.inMem :=
        List.mem_filter.2 ⟨he, by simp [Entry.inMem, hin]⟩
      have hcount := h.entries.inMemory p
      by_cases hp : (s.inFlight.map Operation.participant) = some (.port p)
      · rw [if_pos hp] at hcount
        obtain ⟨a, ha⟩ := List.length_eq_one_iff.1 hcount
        obtain ⟨o, hflight, hparticipant⟩ := Option.map_eq_some_iff.1 hp
        obtain ⟨e', he', hin', hop⟩ := h.operation p o hflight hparticipant
        have hmem' := List.mem_filter.2 ⟨he', hin'⟩
        rw [ha, List.mem_singleton] at hmem hmem'
        rw [hmem, ← hmem', hop, flightOf_same hflight hparticipant]
      · rw [if_neg hp, List.length_eq_zero_iff] at hcount
        rw [hcount] at hmem
        cases hmem
    · have hcount := h.entries.presented p
      rw [length_filter_eq_tally] at hcount
      exact hcount

section
variable {s : State} (h : s.Ledger)
include h

/-- What changes no Request Unit and not the operation in flight. -/
theorem State.Ledger.of_same {t : State} (hflight : t.inFlight = s.inFlight)
    (hrequests : ∀ q, (t.port q).requests = (s.port q).requests) : t.Ledger := fun q => by
  rw [hrequests, flightOf_congr hflight]
  exact h q

theorem State.Ledger.settles {t : State} (hsettles : Settles s t) : t.Ledger :=
  h.of_same hsettles.rest.inFlight fun q => (hsettles.port q).requests

theorem State.Ledger.modLink (p : Port) (g : LinkUnit → LinkUnit) : (s.modLink p g).Ledger :=
  h.of_same rfl fun q => requests_modLink s p q g

theorem State.Ledger.modTransmit (p : Port) (g : TransmitUnit → TransmitUnit) : (s.modTransmit p g).Ledger :=
  h.of_same rfl fun q => requests_modTransmit s p q g

theorem State.Ledger.send (p : Port) (f : LinkFrame) : (s.send p f).Ledger :=
  h.of_same rfl fun q => by simp

theorem State.Ledger.reachTime (d : Nat) : (s.reachTime d).Ledger := h.of_same rfl fun _ => rfl

/-- A change of one Request Unit. -/
theorem State.Ledger.modRequests {p : Port} {g : RequestUnit → RequestUnit}
    (hg : (g (s.port p).requests).Ledger p (s.flightOf p)) : (s.modRequests p g).Ledger := fun q => by
  rw [flightOf_congr (t := s.modRequests p g) (s := s) rfl]
  by_cases hq : q = p
  · subst hq
    rw [requests_modRequests_same]
    exact hg
  · rw [port_modRequests_ne s hq]
    exact h q

theorem State.Ledger.present (p : Port) : (s.present p).Ledger := h.modRequests ((h p).present _)

/-! ### Teardown and link loss (R97, R98, R176) -/

theorem State.Ledger.endTeardownIfEmpty (p : Port) : (s.endTeardownIfEmpty p).Ledger :=
  h.of_same (endTeardownIfEmpty_onlyAt s p).rest.inFlight fun q => requests_endTeardownIfEmpty s p q

theorem State.Ledger.startTeardown (p : Port) (cause : TeardownCause) : (s.startTeardown p cause).Ledger := by
  have htorn := tornDown_torn s p cause
  rw [startTeardown_eq]
  refine State.Ledger.endTeardownIfEmpty (fun q => ?_) p
  rw [flightOf_congr htorn.rest.inFlight]
  by_cases hq : q = p
  · subst hq
    rw [requests_tornDown]
    exact (h q).tornDown
  · rw [(htorn.others q hq).requests]
    exact h q

theorem State.Ledger.loseLink (p : Port) (st : LinkState) : (s.loseLink p st).Ledger := by
  have hcleared := State.Ledger.modTransmit (h.modLink p fun l => l.lose st s.now) p TransmitUnit.clearForLinkLoss
  unfold State.loseLink
  simp only
  split
  · exact hcleared.startTeardown p _
  · exact hcleared

/-! ### Requests (R78 to R94) -/

/-- A request that joins its queue, and what it did to the other ports. -/
theorem State.Ledger.joins {p : Port} {k : RequestKind} {t : State} (hjoins : Joins p k s t) : t.Ledger := by
  obtain ⟨u, e, rfl, hacted, hothers, hlines, hstate, hresult⟩ := hjoins.shape
  have hflight : (u.enqueue p e).inFlight = s.inFlight := hacted.inFlight
  intro q
  rw [flightOf_congr hflight]
  by_cases hq : q = p
  · subst hq
    rw [requests_enqueue]
    exact ((h q).accepted hacted.entries hlines hstate hresult).present _
  · rw [port_enqueue_ne u hq]
    rcases hothers q hq with hsame | htorn
    · rw [hsame.requests]
      exact h q
    · rw [htorn.requests]
      exact (h q).tornDown

end

/-! ### New sequenced frames (R137, R138) -/

/-- A reply that is chosen is that of a class queue's head. -/
theorem doneHead_of_source {q : PortState} {e : Entry} (h : q.source = some (.reply e)) :
    ∃ c, q.requests.doneHead c = some e := by
  have hordinary : q.ordinaryReady = some e → q.requests.doneHead .ordinary = some e := by
    unfold PortState.ordinaryReady
    split
    · exact nofun
    · exact id
  have hburst : q.burstTurn = some e → q.requests.doneHead .ordinary = some e := by
    unfold PortState.burstTurn
    split
    · exact hordinary
    · exact nofun
  unfold PortState.source at h
  split at h
  · rename_i hturn; cases h; exact ⟨_, hburst hturn⟩
  · cases h
  · cases h
  · rename_i hready; cases h; exact ⟨_, hready⟩
  · rename_i hready; cases h; exact ⟨_, hordinary hready⟩
  · cases h

/-- The head of a class queue is the oldest entry of its class. -/
theorem oldest_of_doneHead {r : RequestUnit} {c : ReqClass} {e : Entry} (h : r.doneHead c = some e) :
    e.state = .done ∧ ∃ older younger, r.entries = older ++ e :: younger ∧ e.cls = c ∧ ∀ x ∈ older, x.cls ≠ c := by
  unfold RequestUnit.doneHead RequestUnit.head RequestUnit.queue at h
  split at h
  · rename_i x hhead
    split at h
    · rename_i hdone
      cases h
      rw [List.head?_filter, List.find?_eq_some_iff_append] at hhead
      obtain ⟨hcls, older, younger, hentries, holder⟩ := hhead
      exact ⟨hdone, older, younger, hentries, by simpa using hcls, fun x hx => by simpa using holder x hx⟩
    · cases h
  · cases h

/-- No claim leaves with a reply, which is that of a DONE entry. -/
theorem RequestUnit.Ledger.giveUp {p : Port} {flight : Option Operation} {q : PortState}
    (h : q.requests.Ledger p flight) {x : Source} (hx : q.source = some x) :
    (q.giveUp x).requests.Ledger p flight := by
  cases x with
  | refusal r => exact h
  | notice n => exact h
  | reply e =>
    obtain ⟨c, hhead⟩ := doneHead_of_source hx
    obtain ⟨hdone, older, younger, hentries, hcls, holder⟩ := oldest_of_doneHead hhead
    refine (h.left hentries hdone).congr ?_ rfl
    change removeFirst (fun y => y.cls == e.cls) q.requests.entries = older ++ younger
    rw [hentries, removeFirst_first (by simp) fun y hy => by simpa [hcls] using holder y hy]

section
variable {s : State} (h : s.Ledger)
include h

theorem State.Ledger.transmitNew (p : Port) : (s.transmitNew p).Ledger := by
  unfold State.transmitNew
  split
  · split
    · rename_i x hx
      have hgiven : (s.modPort p fun q => q.giveUp x).Ledger := by
        intro q
        rw [flightOf_congr (t := s.modPort p fun q => q.giveUp x) (s := s) rfl]
        by_cases hq : q = p
        · subst hq
          rw [port_modPort_same]
          exact (h q).giveUp hx
        · rw [port_modPort_ne s hq]
          exact h q
      have hhanded : (s.handOver p x).Ledger := (hgiven.modLink p _).send p _
      unfold State.afterReply
      split
      · split
        · exact hhanded.startTeardown p _
        · exact hhanded
      · exact hhanded
      · exact hhanded
    · exact h
  · exact h

/-! ### The memory channel (R108 to R110, R123) -/

theorem State.Ledger.takeGrant : s.takeGrant.Ledger := by
  unfold State.takeGrant
  split
  · rename_i x hidle hchoice
    split
    · rename_i o ho
      have hnone := fun q => flightOf_none hidle q
      rw [grantTo_eq]
      obtain ⟨lines, hlines⟩ : ∃ n, (if s.turnContinues then s.scheduler.turnLines else 0) + o.lineCount = n :=
        ⟨_, rfl⟩
      rw [hlines]
      have hflight : ((s.granting x o lines).tellGranted x).inFlight = some o := (tellGranted_scheduler _ x).1
      cases x with
      | scrubber =>
        have hparticipant : o.participant = .scrubber := by
          simp only [State.presentedOp] at ho
          split at ho
          · cases ho; rfl
          · cases ho
          · cases ho
        intro q
        rw [flightOf_other hflight (by simp [hparticipant])]
        exact hnone q ▸ h q
      | port p =>
        obtain ⟨e, hpresented, hop⟩ : ∃ e, (s.port p).requests.presentedEntry = some e ∧ e.operation p = some o := by
          simp only [State.presentedOp] at ho
          split at ho
          · rename_i e he
            exact ⟨e, he, ho⟩
          · cases ho
        obtain ⟨he, older, younger, hentries, holder⟩ := List.find?_eq_some_iff_append.1 hpresented
        have hstate : e.state = .presented := by simpa using he
        have htold := tellGranted_port (s := s.granting (.port p) o lines) hentries hstate
          fun y hy => by simpa using holder y hy
        intro q
        by_cases hq : q = p
        · subst hq
          rw [flightOf_same hflight (participant_of_operation hop), htold, requests_modRequests_same, ← hop]
          exact ((h q).granted hentries (hnone q) hstate).present _
        · rw [flightOf_other hflight (by simp [participant_of_operation hop, Ne.symm hq]), htold,
            port_modRequests_ne _ hq]
          exact hnone q ▸ h q
    · exact h
  · exact h
  · exact h

/-- An operation of the port in flight is that of its one entry IN_MEMORY. -/
theorem State.Ledger.inMemory {p : Port} {o : Operation} (hflight : s.inFlight = some o)
    (hp : o.participant = .port p) : ∃ older e younger, (s.port p).requests.entries = older ++ e :: younger ∧
      e.state = .inMemory ∧ (∀ x ∈ older, x.state ≠ .inMemory) ∧ e.operation p = some o := by
  have hmemory := (h p).inMemory
  rw [flightOf_same hflight hp] at hmemory
  obtain ⟨older, e, younger, hentries, he, holder⟩ := exists_inMemory (es := (s.port p).requests.entries)
    (by simp [hmemory])
  refine ⟨older, e, younger, hentries, he, holder, ?_⟩
  rw [((h p).sound e (by simp [hentries])).operation he, flightOf_same hflight hp]

/-- The completion of the port's operation: its entry is DONE or discarded, and its lines are freed. -/
theorem State.Ledger.requestCompleted {p : Port} {o : Operation} {v : State} {freed : Nat} {g : Entry → Entry}
    (hflight : s.inFlight = some o) (hp : o.participant = .port p) (hidle : v.inFlight = none)
    (hothers : ∀ q, q ≠ p → (v.port q).requests = (s.port q).requests)
    (hown : (v.port p).requests =
      { (s.port p).requests with reservedLines := (s.port p).requests.reservedLines - freed })
    (hfreed : ∀ e : Entry, e.state = .inMemory → e.operation p = some o → e.heldLines = freed)
    (hg : ∀ e, (g e).state = .done ∧ (g e).result.isSome = true) : (v.requestCompleted p g).Ledger := by
  obtain ⟨older, e, younger, hentries, he, holder, hop⟩ := h.inMemory hflight hp
  have hlines : e.heldLines = freed := hfreed e he hop
  have hflights : ∀ q, (v.requestCompleted p g).flightOf q = none :=
    flightOf_none ((requestCompleted_onlyAt v p g).rest.inFlight.trans hidle)
  have hventries : (v.port p).requests.entries = older ++ e :: younger := by rw [hown]; exact hentries
  intro q
  rw [hflights]
  by_cases hq : q = p
  · subst hq
    have hsame := flightOf_same hflight hp
    by_cases hstate : (v.port q).session.state = .teardown
    · rw [requestCompleted_teardown g hstate hventries he holder, requests_endTeardownIfEmpty, State.discarding,
        requests_modRequests_same, hown, ← hlines]
      exact (h q).discarded hentries he hsame
    · rw [requestCompleted_running g hstate hventries he holder, requests_modRequests_same, hown, ← hlines]
      exact (((h q).completed hentries he hsame (hg e).1 (hg e).2).barrierStep true).present _
  · rw [(requestCompleted_onlyAt v p g).requests q hq, hothers q hq,
      ← flightOf_other hflight (p := q) (by simp [hp, Ne.symm hq])]
    exact h q

theorem State.Ledger.readCompleted {p : Port} {o : Operation} (hflight : s.inFlight = some o)
    (hp : o.participant = .port p) (hkind : o.kind = .readLines) (reports : List LineReport) :
    (s.readCompleted p o reports).Ledger := by
  have hquiet := readAccounted_quiet s o reports
  rw [readCompleted_eq]
  refine h.requestCompleted (freed := 0) hflight hp hquiet.settles.rest.inFlight
    (fun q _ => (hquiet.settles.port q).requests) (hquiet.settles.port p).requests (fun e he hop => ?_) fun e => ?_
  · rw [heldLines_of_operation he hop, hkind, if_neg (by decide)]
  · rw [readDone_eq]
    split <;> simp

theorem State.Ledger.writeCompleted {p : Port} {o : Operation} (hflight : s.inFlight = some o)
    (hp : o.participant = .port p) (hkind : o.kind = .writeLines) (reports : List LineReport) :
    (s.writeCompleted p o reports).Ledger := by
  have hquiet := writeUnpinned_quiet s o (s.dramWritten p o reports)
  rw [writeCompleted_eq]
  refine h.requestCompleted (freed := o.lineCount) hflight hp ?_ (fun q hq => ?_) ?_ (fun e he hop => ?_) fun e => ?_
  · exact hquiet.settles.rest.inFlight
  · rw [port_modRequests_ne _ hq]
    exact (hquiet.settles.port q).requests
  · rw [requests_modRequests_same, (hquiet.settles.port p).requests]
    rfl
  · rw [heldLines_of_operation he hop, if_pos hkind]
  · exact ⟨rfl, rfl⟩

theorem State.Ledger.zeroCompleted {o : Operation} (hflight : s.inFlight = some o)
    (ho : o.participant = .scrubber) : (s.zeroCompleted o).Ledger := by
  have hidle : (s.zeroCompleted o).inFlight = none := rfl
  intro q
  rw [flightOf_none hidle, ← flightOf_other hflight (p := q) (by simp [ho])]
  exact h q

/-! ### Timers -/

theorem State.Ledger.holdExpired (p : Port) : (s.holdExpired p).Ledger := by
  unfold State.holdExpired
  simp only
  split
  · exact ((h.modTransmit p _).modTransmit p _).settles (raiseNotice_quiet _ _ _).settles
  · exact h.modTransmit p _

theorem State.Ledger.replayExpired (p : Port) : (s.replayExpired p).Ledger := by
  unfold State.replayExpired
  split
  · exact h.modLink p _
  · exact h.loseLink p _

end

/-! ### One step -/

theorem ledger_deviceReset (s : State) : s.deviceReset.Ledger := by
  intro p
  have hidle : s.deviceReset.inFlight = none := rfl
  have hport : s.deviceReset.port p = .reset := reset_port p
  have hentries : PortState.reset.requests.entries = [] := rfl
  rw [flightOf_none hidle, hport]
  refine ⟨fun e he => ?_, ?_, ?_, ?_⟩
  · rw [hentries] at he
    cases he
  · rw [hentries]
    exact Nat.zero_le 1
  · rw [hentries]
    rfl
  · rw [hentries]
    rfl

/-- A sequenced frame: of unknown kind, or a request that arrives. -/
theorem keeps_ledger_of_sequenced {i : Instr} {p : Port} {code : Byte} {f : RequestFrame}
    (hseq : i.sequenced = some (p, code, f)) : Keeps State.Ledger i := by
  rcases arrives_of_sequenced hseq with rfl | ⟨k, f, accept, hexec, hjoins⟩
  · exact .of_running (fun _ => rfl) fun s h => unknownArrives_induct h (fun _ _ hu => hu.modLink p _)
      fun _ _ hu => hu.modTransmit p _
  · exact .of_running hexec fun s h => requestArrives_induct h (fun _ => h.modLink p _)
      (fun _ hu => hu.modLink p _) (fun _ hu => hu.modLink p _) (fun _ hu => hu.modLink p _)
      (fun _ _ hu _ => hu.modTransmit p _) fun u hu _ => hu.joins (hjoins u)

/-- The other commands: of the link, of the timers, of the memory channel and of the transmitter. -/
theorem keeps_ledger_of_not_sequenced {i : Instr} (hseq : i.sequenced = none) : Keeps State.Ledger i := by
  cases i with
  | deviceReset =>
    intro s t _ ht
    cases ht
    exact ledger_deviceReset s
  | resetRelease a =>
    intro s t h ht
    cases ht
    split
    · exact h.of_same rfl fun _ => rfl
    · exact h
  | receiverLockGained p =>
    refine .of_running (fun _ => rfl) fun s h => ?_
    split
    · exact h.modLink p _
    all_goals exact h
  | receiverLockLost p =>
    refine .of_running (fun _ => rfl) fun s h => ?_
    split
    · exact h.loseLink p _
    · exact h.modLink p _
    · exact h.modLink p _
    · exact h
  | damagedFrame p bytes =>
    refine .of_running (fun _ => rfl) fun s h => ?_
    split
    · exact h
    · split
      · exact h
      all_goals exact h.modLink p _
  | linkHello p seen =>
    refine .of_running (fun _ => rfl) fun s h => ?_
    split
    · exact h
    · exact h.modLink p _
    · split
      · exact h.modLink p _
      · exact h
    · split
      · exact h.modLink p _
      · exact h.loseLink p _
  | linkAck p value hold =>
    refine .of_running (fun _ => rfl) fun s h => ?_
    split
    · exact h
    · exact h
    · exact ((h.modLink p _).modLink p _).modTransmit p _
    · exact (h.modLink p _).modTransmit p _
  | linkNak p value =>
    refine .of_running (fun _ => rfl) fun s h => ?_
    split
    · exact h
    · exact h
    · exact (h.modLink p _).modLink p _
    · exact h.modLink p _
  | grant => exact .of_running (fun _ => rfl) fun _ h => h.takeGrant
  | readLinesCompletion reports =>
    refine .of_running (fun _ => rfl) fun s h => ?_
    split
    · rename_i o hflight
      split
      · rename_i hp hkind
        exact h.readCompleted hflight hp hkind reports
      all_goals exact h
    · exact h
  | writeLinesCompletion reports =>
    refine .of_running (fun _ => rfl) fun s h => ?_
    split
    · rename_i o hflight
      split
      · rename_i hp hkind
        exact h.writeCompleted hflight hp hkind reports
      all_goals exact h
    · exact h
  | zeroLinesCompletion =>
    refine .of_running (fun _ => rfl) fun s h => ?_
    split
    · rename_i o hflight
      split
      · rename_i hp hkind
        exact h.zeroCompleted hflight hp
      all_goals exact h
    · exact h
  | transmitChoice p => exact .of_running (fun _ => rfl) fun _ h => h.transmitNew p
  | retransmit p =>
    refine .of_running (fun _ => rfl) fun s h => ?_
    split
    · split
      · exact (h.modLink p _).send p _
      · exact h
    · exact h
  | sendLinkHello p =>
    refine .of_running (fun _ => rfl) fun s h => ?_
    simp only
    split
    · exact (h.modLink p _).send p _
    · exact h
  | sendLinkNak p =>
    refine .of_running (fun _ => rfl) fun s h => ?_
    split
    · exact (h.modLink p _).send p _
    all_goals exact h
  | sendLinkAck p =>
    refine .of_running (fun _ => rfl) fun s h => ?_
    split
    · exact (h.modLink p _).send p _
    all_goals exact h
  | helloTimerExpiry p =>
    refine .of_running (fun _ => rfl) fun s h => ?_
    split
    · exact (h.reachTime _).modLink p _
    · exact h
  | replayTimerExpiry p =>
    refine .of_running (fun _ => rfl) fun s h => ?_
    split
    · exact (h.reachTime _).replayExpired p
    · exact h
  | holdTimerExpiry p =>
    refine .of_running (fun _ => rfl) fun s h => ?_
    split
    · exact (h.reachTime _).holdExpired p
    · exact h
  | offerExpiry n =>
    refine .of_running (fun _ => rfl) fun s h => ?_
    split
    · exact (h.reachTime _).settles (((removeOffer_settles _ _).trans (raiseNotice_quiet _ _ _).settles).trans
        (raiseNotice_quiet _ _ _).settles)
    · exact h
  | _ => cases hseq

/-- Settles O56: every command keeps each port's ledger. -/
theorem stepKeepsWriteLinesAccounted : Obligations.StepKeepsWriteLinesAccounted := by
  intro s t hstep hs
  refine (ledger_iff t).1 (step_keeps (fun i => ?_) (fun _ _ h => h.of_same rfl fun _ => rfl)
    (fun _ _ h => h.of_same rfl fun _ => rfl) hstep ((ledger_iff s).2 hs))
  cases hseq : i.sequenced with
  | none => exact keeps_ledger_of_not_sequenced hseq
  | some frame => exact keeps_ledger_of_sequenced hseq

end Sys2Proof.Machine
end

section
/-! SUPPORT. Which entry a Request Unit presents: class candidates, eligibility and the choice (R99 to R106, R116). -/

namespace Sys2Proof.Machine

/-! ### Class candidates (R99) -/

/-- A PENDING data entry (R99). -/
def Entry.PendingData (e : Entry) : Prop := e.state = .waiting ∧ e.translation.isSome = true

/-- The entry is the oldest PENDING data entry of the class among these, between the older and the younger ones. -/
def OldestPending (c : ReqClass) (es older : List Entry) (e : Entry) (younger : List Entry) : Prop :=
  es = older ++ e :: younger ∧ e.cls = c ∧ e.PendingData ∧ ∀ o ∈ older, ¬(o.cls = c ∧ o.PendingData)

theorem OldestPending.cons {c : ReqClass} {es older younger : List Entry} {a e : Entry}
    (ha : ¬(a.cls = c ∧ a.PendingData)) (h : OldestPending c es older e younger) :
    OldestPending c (a :: es) (a :: older) e younger := by
  obtain ⟨rfl, hcls, hpending, hnone⟩ := h
  exact ⟨rfl, hcls, hpending, List.forall_mem_cons.2 ⟨ha, hnone⟩⟩

theorem candidate_cons_of_pending {c : ReqClass} {a : Entry} (h : a.cls = c ∧ a.PendingData)
    (before es : List Entry) : candidate c before (a :: es) = some (before, a, es) := by
  rw [candidate]
  exact if_pos h

theorem candidate_cons_of_not_pending {c : ReqClass} {a : Entry} (h : ¬(a.cls = c ∧ a.PendingData))
    (before es : List Entry) : candidate c before (a :: es) = candidate c (before ++ [a]) es := by
  rw [candidate]
  exact if_neg h

/-- What the search finds, with the entries that it has passed before. -/
theorem oldestPending_of_candidate {c : ReqClass} {before es front younger : List Entry} {e : Entry}
    (h : candidate c before es = some (front, e, younger)) :
    ∃ older, front = before ++ older ∧ OldestPending c es older e younger := by
  induction es generalizing before with
  | nil => cases h
  | cons a es ih =>
    by_cases ha : a.cls = c ∧ a.PendingData
    · rw [candidate_cons_of_pending ha] at h
      cases h
      exact ⟨[], by simp, rfl, ha.1, ha.2, by simp⟩
    · rw [candidate_cons_of_not_pending ha] at h
      obtain ⟨older, hfront, holdest⟩ := ih h
      exact ⟨a :: older, by simp [hfront], holdest.cons ha⟩

/-- The search finds the oldest PENDING data entry of the class. -/
theorem candidate_of_oldestPending {c : ReqClass} {es older younger : List Entry} {e : Entry}
    (h : OldestPending c es older e younger) (before : List Entry) :
    candidate c before es = some (before ++ older, e, younger) := by
  obtain ⟨rfl, hcls, hpending, hnone⟩ := h
  induction older generalizing before with
  | nil => simpa using candidate_cons_of_pending ⟨hcls, hpending⟩ before younger
  | cons a older ih =>
    obtain ⟨ha, hrest⟩ := List.forall_mem_cons.1 hnone
    rw [List.cons_append, candidate_cons_of_not_pending ha, ih _ hrest]
    simp

theorem candidate_eq_some_iff {c : ReqClass} {es older younger : List Entry} {e : Entry} :
    candidate c [] es = some (older, e, younger) ↔ OldestPending c es older e younger := by
  constructor
  · intro h
    obtain ⟨older', hfront, holdest⟩ := oldestPending_of_candidate h
    rwa [hfront]
  · exact fun h => candidate_of_oldestPending h []

/-! ### Eligibility (R100 to R104) -/

/-- Two data entries on one frame, one of them a WRITE (R103, R104). -/
def Entry.Conflict (a b : Entry) : Prop :=
  (∃ t u, a.translation = some t ∧ b.translation = some u ∧ t.frame = u.frame) ∧
    (a.kind = .write ∨ b.kind = .write)

theorem conflicts_iff (a b : Entry) : a.conflicts b = true ↔ a.Conflict b := by
  unfold Entry.conflicts Entry.Conflict Entry.isWrite
  cases ha : a.translation <;> cases hb : b.translation <;> simp

theorem isBarrier_iff (e : Entry) : e.isBarrier = true ↔ e.kind = .fence ∨ e.kind = .closeSession := by
  simp [Entry.isBarrier]

/-- The conditions of R100 to R104 on an entry and those accepted before it. -/
def MayStart (mode : OrderMode) (older : List Entry) (e : Entry) : Prop :=
  (∀ o ∈ older, ¬(o.cls = e.cls ∧ o.state = .waiting)) ∧
  (∀ o ∈ older, (o.kind = .fence ∨ o.kind = .closeSession) → o.state = .done) ∧
  (mode = .arrival → ∀ o ∈ older, ¬(o.cls ≠ e.cls ∧ o.state = .waiting)) ∧
  (mode = .priority → ∀ o ∈ older, o.cls ≠ e.cls → o.state ≠ .done → ¬o.Conflict e)

theorem eligible_iff (mode : OrderMode) (older : List Entry) (e : Entry) :
    eligible mode older e = true ↔ MayStart mode older e := by
  unfold eligible MayStart
  cases mode with
  | arrival => simp [← isBarrier_iff, forall_and, and_assoc, imp_iff_not_or]
  | priority => simp [← isBarrier_iff, ← conflicts_iff, forall_and, and_assoc, imp_iff_not_or, or_assoc]

/-! ### The choice (R105, R106, R116) -/

theorem eligibleCandidate_eq_some_iff {mode : OrderMode} {c : ReqClass} {es older younger : List Entry} {e : Entry} :
    eligibleCandidate mode c es = some (older, e, younger) ↔
      OldestPending c es older e younger ∧ MayStart mode older e := by
  rw [← candidate_eq_some_iff, ← eligible_iff, eligibleCandidate]
  rcases candidate c [] es with - | ⟨o, x, y⟩
  · simp
  · by_cases hx : eligible mode o x = true
    · simp only [hx, if_true]
      constructor
      · intro h
        cases h
        exact ⟨rfl, hx⟩
      · exact fun h => h.1
    · simp only [hx]
      constructor
      · intro h
        cases h
      · rintro ⟨h, hel⟩
        cases h
        exact absurd hel hx

theorem eligibleCandidate_eq_none {mode : OrderMode} {c : ReqClass} {es : List Entry}
    (h : ∀ older e younger, OldestPending c es older e younger → ¬MayStart mode older e) :
    eligibleCandidate mode c es = none := by
  rw [Option.eq_none_iff_forall_ne_some]
  rintro ⟨older, e, younger⟩ hsome
  obtain ⟨holdest, hstart⟩ := eligibleCandidate_eq_some_iff.1 hsome
  exact h older e younger holdest hstart

theorem isSome_presentedEntry_iff (r : RequestUnit) :
    r.presentedEntry.isSome = true ↔ ∃ e ∈ r.entries, e.state = .presented := by
  simp [RequestUnit.presentedEntry, List.find?_isSome]

section
variable {r : RequestUnit} {st : SessionState}

theorem present_of_blocked (h : st = .teardown ∨ ∃ e ∈ r.entries, e.state = .presented) : r.present st = r := by
  rw [← isSome_presentedEntry_iff] at h
  exact if_pos h

variable (hsession : st ≠ .teardown) (hnone : ∀ e ∈ r.entries, e.state ≠ .presented)
include hsession hnone

theorem not_blocked : ¬(st = .teardown ∨ r.presentedEntry.isSome = true) := by
  rw [isSome_presentedEntry_iff]
  rintro (h | ⟨e, he, hstate⟩)
  · exact hsession h
  · exact hnone e he hstate

theorem present_of_choice {older younger : List Entry} {e : Entry}
    (h : chooseEntry r.mode r.entries = some (older, e, younger)) :
    r.present st = { r with entries := older ++ { e with state := .presented } :: younger } := by
  rw [RequestUnit.present, if_neg (not_blocked hsession hnone), h]

theorem present_of_no_choice (h : chooseEntry r.mode r.entries = none) : r.present st = r := by
  rw [RequestUnit.present, if_neg (not_blocked hsession hnone), h]

end

/-- Settles O43: the Expedited candidate comes first, then the Ordinary one. -/
theorem presentationFollowsTheOrderingRules : Obligations.PresentationFollowsTheOrderingRules := by
  intro r st shown pendingData candidate conflict eligible presents
  refine ⟨present_of_blocked, fun hsession hnone => ⟨fun older e younger hcand hel => ?_, fun hexpedited => ?_⟩⟩
  · refine present_of_choice hsession hnone ?_
    rw [chooseEntry, eligibleCandidate_eq_some_iff.2 ⟨hcand, hel⟩]
  · have hchoice : chooseEntry r.mode r.entries = eligibleCandidate r.mode .ordinary r.entries := by
      rw [chooseEntry, eligibleCandidate_eq_none hexpedited]
    refine ⟨fun older e younger hcand hel => ?_, fun hordinary => ?_⟩
    · exact present_of_choice hsession hnone (hchoice.trans (eligibleCandidate_eq_some_iff.2 ⟨hcand, hel⟩))
    · exact present_of_no_choice hsession hnone (hchoice.trans (eligibleCandidate_eq_none hordinary))

end Sys2Proof.Machine
end

section
/-! SUPPORT. FENCE and CLOSE wait for the older entries of their port: the barrier step, and their acceptance (R111 to R113,
R185). -/

namespace Sys2Proof.Machine

/-! ### The barrier step (R111, R112) -/

/-- Every one of these entries is DONE. -/
def AllDone (es : List Entry) : Prop := ∀ o ∈ es, o.state = .done

theorem all_done_iff (es : List Entry) : (es.all fun o => o.state == .done) = true ↔ AllDone es := by
  simp [AllDone]

/-- A PENDING FENCE or CLOSE (R101, R113). -/
def Entry.WaitingBarrier (e : Entry) : Prop := (e.kind = .fence ∨ e.kind = .closeSession) ∧ e.state = .waiting

theorem waitingBarrier_iff (e : Entry) : e.WaitingBarrier ↔ (e.isBarrier && e.state == .waiting) = true := by
  simp [Entry.WaitingBarrier, isBarrier_iff]

@[simp] theorem length_barrierStep (allDone : Bool) (es : List Entry) :
    (barrierStep allDone es).length = es.length := by
  induction es generalizing allDone with
  | nil => rfl
  | cons e es ih => rw [barrierStep, List.length_cons, ih, List.length_cons]

/-- The younger entries are looked at with what became of the older ones. -/
theorem barrierStep_append (allDone : Bool) (older es : List Entry) :
    barrierStep allDone (older ++ es) =
      barrierStep allDone older ++
        barrierStep (allDone && (barrierStep allDone older).all fun o => o.state == .done) es := by
  induction older generalizing allDone with
  | nil => simp [barrierStep]
  | cons e older ih => simp only [List.cons_append, barrierStep, ih, List.all_cons, Bool.and_assoc]

theorem barrierStep_cons_of_due {e : Entry} (h : e.WaitingBarrier) (es : List Entry) :
    barrierStep true (e :: es) = e.barrierDone :: barrierStep true es := by
  rw [waitingBarrier_iff] at h
  simp [barrierStep, h, Entry.barrierDone]

theorem head?_barrierStep_of_not_due {allDone : Bool} {e : Entry} (h : ¬(e.WaitingBarrier ∧ allDone = true))
    (es : List Entry) : (barrierStep allDone (e :: es)).head? = some e := by
  have hdue : ¬(allDone && e.isBarrier && e.state == .waiting) = true := by
    rw [Bool.and_assoc, Bool.and_eq_true, ← waitingBarrier_iff]
    exact fun hdue => h hdue.symm
  rw [barrierStep, if_neg hdue, List.head?_cons]

section
variable (older younger : List Entry) (e : Entry)

/-- The entry behind the older ones is the first one of the step that follows theirs. -/
theorem getElem?_barrierStep :
    (barrierStep true (older ++ e :: younger))[older.length]? =
      (barrierStep ((barrierStep true older).all fun o => o.state == .done) (e :: younger)).head? := by
  rw [barrierStep_append, List.getElem?_append_right (by simp)]
  simp [List.head?_eq_getElem?]

theorem getElem?_barrierStep_of_due (hdone : AllDone (barrierStep true older)) (he : e.WaitingBarrier) :
    (barrierStep true (older ++ e :: younger))[older.length]? = some e.barrierDone := by
  rw [getElem?_barrierStep, (all_done_iff _).2 hdone, barrierStep_cons_of_due he, List.head?_cons]

theorem getElem?_barrierStep_of_not_due (h : ¬(e.WaitingBarrier ∧ AllDone (barrierStep true older))) :
    (barrierStep true (older ++ e :: younger))[older.length]? = some e := by
  rw [getElem?_barrierStep, head?_barrierStep_of_not_due]
  rwa [all_done_iff]

/-- The entries before a place, as the step leaves them, are what the step makes of the older ones alone. -/
theorem olderDone_iff :
    (∀ (j : Nat) (o : Entry), j < older.length → (barrierStep true (older ++ e :: younger))[j]? = some o →
      o.state = .done) ↔ AllDone (barrierStep true older) := by
  have hsame : ∀ j, j < older.length →
      (barrierStep true (older ++ e :: younger))[j]? = (barrierStep true older)[j]? := fun j hj => by
    rw [barrierStep_append, List.getElem?_append_left (by simpa using hj)]
  constructor
  · intro h o ho
    obtain ⟨j, hj, hget⟩ := List.mem_iff_getElem.1 ho
    rw [length_barrierStep] at hj
    exact h j o hj ((hsame j hj).trans (hget ▸ List.getElem?_eq_getElem _))
  · intro h j o hj hget
    exact h o (List.mem_of_getElem? ((hsame j hj).symm.trans hget))

end

/-! ### The acceptance of a FENCE or CLOSE (R112, R113, R185) -/

/-- An entry without a translation is not presented, so as the youngest it stays as it is (R99, R106). -/
theorem youngest_enqueue_of_no_translation (s : State) (p : Port) {e : Entry} (h : e.translation = none) :
    ((s.enqueue p e).port p).requests.entries.getLast? = some e := by
  rw [requests_enqueue]
  have hlast : ((s.port p).requests.accepted e).entries.getLast? = some e := List.getLast?_concat
  rcases present_spec ((s.port p).requests.accepted e) (s.port p).session.state with
    hsame | ⟨older, x, younger, hentries, -, hdata, -, -, -, hpresent⟩
  · rw [hsame, hlast]
  · rw [hentries, List.getLast?_append, List.getLast?_cons] at hlast
    rw [hpresent, List.getLast?_append, List.getLast?_cons]
    cases hyounger : younger.getLast? with
    | some y => simpa [hyounger] using hlast
    | none =>
      obtain rfl : x = e := by simpa [hyounger] using hlast
      simp [Entry.isData, h] at hdata

/-- The entry of a FENCE, or of a CLOSE as one: DONE at once, or PENDING (R91, R112). -/
structure BarrierEntry (done : Prop) (k : RequestKind) (f : RequestFrame) (e : Entry) : Prop where
  kind : e.kind = k
  mark : e.mark = f.mark
  translation : e.translation = none
  payload : e.payload = none
  atOnce : done → e.state = .done ∧ e.result = some .ok
  waits : ¬done → e.state = .waiting ∧ e.result = none

theorem acceptBarrier_enqueues (u : State) (p : Port) (k : RequestKind) (f : RequestFrame) :
    ∃ e, u.acceptBarrier p k f = u.enqueue p e ∧ BarrierEntry (AllDone (u.port p).requests.entries) k f e := by
  unfold State.acceptBarrier
  by_cases hdone : AllDone (u.port p).requests.entries
  · rw [if_pos ((all_done_iff _).2 hdone)]
    exact ⟨_, rfl, rfl, rfl, rfl, rfl, fun _ => ⟨rfl, rfl⟩, fun h => absurd hdone h⟩
  · rw [if_neg (mt (all_done_iff _).1 hdone)]
    exact ⟨_, rfl, rfl, rfl, rfl, rfl, fun h => absurd h hdone, fun _ => ⟨rfl, rfl⟩⟩

/-- An accepted FENCE, or CLOSE as one, leaves the state that its action left, and its entry as the youngest. -/
theorem State.Accepts.barrier {s : State} {p : Port} {k : RequestKind} {f : RequestFrame} (h : s.Accepts p k f)
    (act : State → State) :
    ∃ t e, whenRunning s (s.requestArrives p k f fun v => (act v).acceptBarrier p k f) = .next t ∧
      (t.port p).requests.entries.getLast? = some e ∧
      BarrierEntry (AllDone ((act s).port p).requests.entries) k f e ∧ OnlyQueued p (act s) t := by
  obtain ⟨e, henqueues, hentry⟩ := acceptBarrier_enqueues (act s) p k f
  obtain ⟨t, hexec, hqueued, hrequests⟩ :=
    h.enqueued (accept := fun v => (act v).acceptBarrier p k f) henqueues
  refine ⟨t, e, hexec, ?_, hentry, hqueued⟩
  rw [hrequests, youngest_enqueue_of_no_translation _ p hentry.translation]

/-- Settles O19: each entry by the step's outcome for the older ones; FENCE and CLOSE by their acceptance. -/
theorem fenceAndCloseWaitForOlderEntries : Obligations.FenceAndCloseWaitForOlderEntries := by
  constructor
  · intro es i e he barrier olderDone
    obtain ⟨hi, hget⟩ := List.getElem?_eq_some_iff.1 he
    obtain ⟨older, younger, rfl, rfl⟩ : ∃ older younger, es = older ++ e :: younger ∧ older.length = i :=
      ⟨es.take i, es.drop (i + 1), by simp [← hget], List.length_take_of_le hi.le⟩
    have holder : olderDone ↔ AllDone (barrierStep true older) := olderDone_iff older younger e
    rw [holder]
    exact ⟨fun ⟨hwaiting, hdone⟩ => getElem?_barrierStep_of_due older younger e hdone hwaiting,
      getElem?_barrierStep_of_not_due older younger e⟩
  · intro s p f k haccepts hk allDone
    rcases hk with rfl | rfl
    · obtain ⟨t, e, hexec, hlast, hentry, hqueued⟩ := haccepts.barrier fun v => v
      exact ⟨t, e, hexec, hlast, hentry.kind, hentry.mark, hentry.translation, hentry.payload, hentry.atOnce,
        hentry.waits, fun _ => hqueued, nofun⟩
    · obtain ⟨t, e, hexec, hlast, hentry, hqueued⟩ :=
        haccepts.barrier fun v => v.modSession p fun c => { c with state := .closing }
      rw [requests_modSession] at hentry
      exact ⟨t, e, hexec, hlast, hentry.kind, hentry.mark, hentry.translation, hentry.payload, hentry.atOnce,
        hentry.waits, nofun, fun _ => hqueued⟩

end Sys2Proof.Machine
end

section
/-! SUPPORT. SET_WEIGHT (R126): its check, and the one weight that it sets. -/

namespace Sys2Proof.Machine

theorem setWeight_bad {s : State} {x : List Byte}
    (h : 5 ≤ field x 0 1 ∨ field x 1 1 = 0 ∨ 64 < field x 1 1) :
    s.setWeight x = .failed s .badValue :=
  dif_neg fun ⟨hparticipant, hlow, hhigh⟩ => by omega

/-- SET_WEIGHT of the participant that its number names, with a weight in range. -/
theorem setWeight_good {s : State} {x : List Byte} {y : Participant} (hy : field x 0 1 = y.index.val)
    (hlow : 1 ≤ field x 1 1) (hhigh : field x 1 1 ≤ 64) :
    s.setWeight x =
      .ok { s with scheduler := { s.scheduler with weights := s.scheduler.weights.set y.index (field x 1 1) } }
        (.weightSet (field x 0 1) (field x 1 1) (s.scheduler.weight y)) := by
  have hchecks : field x 0 1 < 5 ∧ 1 ≤ field x 1 1 ∧ field x 1 1 ≤ 64 :=
    ⟨hy.trans_lt y.index.isLt, hlow, hhigh⟩
  rw [State.setWeight, dif_pos hchecks]
  simp only [hy]
  rfl

/-- Settles O36: the numbers and weights by their definitions, and SET_WEIGHT by its check. -/
theorem setWeightSetsTheParticipant : Obligations.SetWeightSetsTheParticipant := by
  refine ⟨⟨fun _ => rfl, rfl, fun _ _ => rfl⟩, ?_⟩
  intro s p f haccepts hrole n weight
  obtain ⟨t, hexec, hans, hqueued⟩ := haccepts.administrative hrole (by decide)
    (act := fun v => v.setWeight f.payload) (setWeight_acted s p _)
  refine ⟨t, hexec, fun hbad => ?_, fun x hx hlow hhigh => ?_⟩
  · rw [setWeight_bad hbad] at hans hqueued
    exact ⟨hans, hqueued⟩
  · rw [setWeight_good hx hlow hhigh] at hans hqueued
    exact ⟨hans, hqueued⟩

end Sys2Proof.Machine
end

section
/-! SUPPORT. Notices: which enter a queue, and for whom they are raised (R24, R150, R151, R183). -/

namespace Sys2Proof.Machine

section
variable {s : State} {p : Port}

/-- A notice for a port in session joins the tail of a queue with room (R150, R151). -/
theorem raiseNotice_room (hin : s.inSession p = true)
    (hroom : (s.port p).transmit.notices.length < Config.noticePlaces) (n : Notice) :
    s.raiseNotice p n = s.modTransmit p fun t => { t with notices := t.notices ++ [n] } := by
  rw [raiseNotice_in hin, State.enterNotice]
  exact modTransmit_congr s (enterNotice_room hroom n)

/-- A notice for a port in session whose queue is full is dropped and counted (R150, R151). -/
theorem raiseNotice_full (hin : s.inSession p = true)
    (hfull : ¬(s.port p).transmit.notices.length < Config.noticePlaces) (n : Notice) :
    s.raiseNotice p n = s.modTransmit p fun t => { t with lost := min 255 (t.lost + 1) } := by
  rw [raiseNotice_in hin, State.enterNotice]
  exact modTransmit_congr s (enterNotice_full hfull n)

/-- A notice for the administrator is raised for the port that holds the role (R24). -/
theorem raiseForAdmin_held (hrole : s.role = .held p) (n : Notice) :
    s.raiseForAdmin n = s.raiseNotice p n := by
  rw [State.raiseForAdmin, hrole]

/-- A notice for the administrator is discarded while no port holds the role (R24). -/
theorem raiseForAdmin_no_holder (hrole : ∀ p, s.role ≠ .held p) (n : Notice) : s.raiseForAdmin n = s := by
  unfold State.raiseForAdmin
  split
  · rename_i p hheld
    exact absurd hheld (hrole p)
  · rfl
  · rfl

/-- ADMIN_CHANGED reaches each port as a notice raised for that port alone would (R183). -/
theorem transmit_raiseAdminChanged_eq_raiseNotice (s : State) (h : Option Port) (q : Port) :
    ((s.raiseAdminChanged h).port q).transmit = ((s.raiseNotice q (.adminChanged h)).port q).transmit := by
  rw [transmit_raiseAdminChanged, transmit_raiseNotice]
  simp only [true_and]

end

/-- Settles O40: the entry rule by the room of the queue, and a raised notice by the port's session. -/
theorem noticeEntryRule : Obligations.NoticeEntryRule := by
  refine ⟨fun t n => ?_, fun s n => ⟨fun p => ⟨fun hout => raiseNotice_out hout n,
    fun hin hroom => raiseNotice_room hin hroom n, fun hin hfull => raiseNotice_full hin (Nat.not_lt.2 hfull) n⟩,
    fun p hrole => raiseForAdmin_held hrole n, fun hrole => raiseForAdmin_no_holder hrole n,
    transmit_raiseAdminChanged_eq_raiseNotice s⟩⟩
  split
  · rename_i hroom
    exact enterNotice_room hroom n
  · rename_i hfull
    exact enterNotice_full hfull n

end Sys2Proof.Machine
end

section
/-! SUPPORT. The choice of the next new sequenced frame (R136, R137, R139), and the hand-over of its frame (R138, R140 to
R142, R147, R152, R170, R205). -/

namespace Sys2Proof.Machine

/-! ### Replies that are ready (R139, R143) -/

/-- An entry is the head of its class queue, DONE, and not kept back by the hold. -/
def PortState.Ready (q : PortState) (c : ReqClass) (e : Entry) : Prop :=
  q.requests.head c = some e ∧ e.state = .done ∧ (c = .ordinary → q.transmit.hold = false)

theorem doneHead_eq_filter (r : RequestUnit) (c : ReqClass) :
    r.doneHead c = (r.head c).filter fun e => e.state == .done := by
  unfold RequestUnit.doneHead
  cases r.head c with
  | none => rfl
  | some e => by_cases hdone : e.state = .done <;> simp [Option.filter, hdone]

theorem doneHead_eq_some_iff {r : RequestUnit} {c : ReqClass} {e : Entry} :
    r.doneHead c = some e ↔ r.head c = some e ∧ e.state = .done := by
  rw [doneHead_eq_filter, Option.filter_eq_some_iff, beq_iff_eq]

theorem isSome_doneHead (r : RequestUnit) (c : ReqClass) :
    (r.doneHead c).isSome = (r.head c).any fun e => e.state == .done := by
  rw [doneHead_eq_filter, Option.isSome_filter]

section
variable {q : PortState} {e : Entry}

theorem expeditedReady_eq_some_iff : q.expeditedReady = some e ↔ q.Ready .expedited e := by
  simp [PortState.expeditedReady, PortState.Ready, doneHead_eq_some_iff]

theorem ordinaryReady_eq_some_iff : q.ordinaryReady = some e ↔ q.Ready .ordinary e := by
  unfold PortState.ordinaryReady PortState.Ready
  cases q.transmit.hold <;> simp [doneHead_eq_some_iff]

theorem expeditedReady_eq_none (h : ∀ e, ¬q.Ready .expedited e) : q.expeditedReady = none :=
  Option.eq_none_iff_forall_ne_some.2 fun e he => h e (expeditedReady_eq_some_iff.1 he)

theorem ordinaryReady_eq_none (h : ∀ e, ¬q.Ready .ordinary e) : q.ordinaryReady = none :=
  Option.eq_none_iff_forall_ne_some.2 fun e he => h e (ordinaryReady_eq_some_iff.1 he)

/-- The burst turn is due and an Ordinary reply is ready for it (R137, step 1). -/
theorem burstTurn_eq_some_iff :
    q.burstTurn = some e ↔ q.requests.burstLimit ≤ q.transmit.burst ∧ q.Ready .ordinary e := by
  rw [PortState.burstTurn, Option.ite_none_right_eq_some, ordinaryReady_eq_some_iff]

theorem burstTurn_eq_none (h : ¬(q.requests.burstLimit ≤ q.transmit.burst ∧ ∃ e, q.Ready .ordinary e)) :
    q.burstTurn = none :=
  Option.eq_none_iff_forall_ne_some.2 fun e he =>
    have ⟨hdue, hready⟩ := burstTurn_eq_some_iff.1 he
    h ⟨hdue, e, hready⟩

/-- What the Transmit Unit looks at to say that an Ordinary reply stands ready (R142). -/
theorem isSome_ordinaryReady (q : PortState) :
    q.ordinaryReady.isSome =
      (decide (q.transmit.hold = false) && (q.requests.head .ordinary).any fun x => x.state == .done) := by
  rw [PortState.ordinaryReady, ← isSome_doneHead]
  cases q.transmit.hold <;> simp

/-! ### The sources in order (R137) -/

theorem source_burstTurn (h : q.burstTurn = some e) : q.source = some (.reply e) := by
  rw [PortState.source, h]

variable (hturn : q.burstTurn = none)
include hturn

theorem source_refusal {r : RefusalRecord} {rest : List RefusalRecord} (h : q.transmit.refusals = r :: rest) :
    q.source = some (.refusal r) := by
  rw [PortState.source, hturn, h]

variable (hrefusals : q.transmit.refusals = [])
include hrefusals

theorem source_notice {n : Notice} {rest : List Notice} (h : q.transmit.notices = n :: rest) :
    q.source = some (.notice n) := by
  rw [PortState.source, hturn, hrefusals, h]

variable (hnotices : q.transmit.notices = [])
include hnotices

theorem source_expedited (h : q.expeditedReady = some e) : q.source = some (.reply e) := by
  rw [PortState.source, hturn, hrefusals, hnotices, h]

theorem source_last (h : q.expeditedReady = none) : q.source = q.ordinaryReady.map .reply := by
  rw [PortState.source, hturn, hrefusals, hnotices, h]
  cases q.ordinaryReady <;> rfl

end

/-- Settles O48: source by source, each with the ones before it empty. -/
theorem sourcesInOrder : Obligations.SourcesInOrder := by
  intro q head ready due
  refine ⟨fun e hdue hready => source_burstTurn (burstTurn_eq_some_iff.2 ⟨hdue, hready⟩), fun hnone => ?_⟩
  have hturn : q.burstTurn = none := burstTurn_eq_none hnone
  refine ⟨fun r rest h => source_refusal hturn h, fun hrefusals => ?_⟩
  refine ⟨fun n rest h => source_notice hturn hrefusals h, fun hnotices => ?_⟩
  refine ⟨fun e h => source_expedited hturn hrefusals hnotices (expeditedReady_eq_some_iff.2 h), fun hexpedited => ?_⟩
  rw [source_last hturn hrefusals hnotices (expeditedReady_eq_none hexpedited)]
  refine ⟨fun e h => ?_, fun h => ?_⟩
  · rw [ordinaryReady_eq_some_iff.2 h]
    rfl
  · rw [ordinaryReady_eq_none h]
    rfl

/-! ### When a new frame may be taken (R136) -/

theorem canTakeNew_iff {l : LinkUnit} :
    l.canTakeNew = true ↔ l.state = .up ∧ l.retransmit = none ∧ l.replay.length < Config.replayPlaces ∧
      l.helloPending = false ∧ l.pendingNak = none ∧ l.pendingAck = none := by
  simp [LinkUnit.canTakeNew, LinkUnit.noControlPending, and_assoc]

section
variable {s : State} {p : Port}

theorem transmitNew_none (h : ¬(s.port p).link.canTakeNew = true ∨ (s.port p).source = none) :
    s.transmitNew p = s := by
  unfold State.transmitNew
  split
  · rename_i htake
    rw [h.resolve_left (not_not_intro htake)]
  · rfl

theorem transmitNew_some (htake : (s.port p).link.canTakeNew = true) {x : Source}
    (h : (s.port p).source = some x) : s.transmitNew p = (s.handOver p x).afterReply p x := by
  rw [State.transmitNew, if_pos htake, h]

/-! ### The hand-over (R138, R170) -/

/-- A frame enters the replay buffer and is begun on the link (R138, R170). -/
def State.sendKept (s : State) (p : Port) (f : LinkFrame) (now timeout : Nat) : State :=
  s.modPort p fun q => { q with sent := q.sent ++ [f], link := q.link.keep f now timeout }

/-- The source gives the frame up, and the frame is kept and sent. -/
theorem handOver_eq (s : State) (p : Port) (x : Source) :
    s.handOver p x = (s.modPort p fun q => q.giveUp x).sendKept p
      (x.frame (s.port p).link.nextOut (s.port p).transmit.lost) s.now (ticks s.replayTimeout) := by
  rw [State.handOver, State.send, State.modLink, modPort_modPort]
  rfl

theorem session_handOver (s : State) (p : Port) (x : Source) :
    ((s.handOver p x).port p).session = (s.port p).session := by
  simp only [handOver_eq, State.sendKept, port_modPort_same]
  cases x <;> rfl

/-- The class flag of a frame (R201). -/
theorem flags_eq_ite (c : ReqClass) : c.flags = if c = .expedited then 1 else 0 := by
  cases c <;> rfl

theorem frame_refusal (r : RefusalRecord) (seq : Byte) (lost : Nat) :
    (Source.refusal r).frame seq lost =
      { kind := 0x81, seq := seq, flags := if r.cls = .expedited then 1 else 0, mark := r.mark, byte6 := r.seq,
        byte7 := r.reason.code, payload := [] } := by
  rw [Source.frame, flags_eq_ite, refusalCode]

theorem frame_reply {e : Entry} {result : ResultCode} (h : e.result = some result) (seq : Byte) (lost : Nat) :
    (Source.reply e).frame seq lost =
      { kind := 0x80, seq := seq, flags := if e.cls = .expedited then 1 else 0, mark := e.mark, byte6 := e.number,
        byte7 := result.code, payload := if result = .ok then e.replyBytes else [] } := by
  have hcode : e.resultCode = result := by rw [Entry.resultCode, h, Option.getD_some]
  rw [Source.frame, flags_eq_ite, hcode, replyCode]

/-- The burst count after a REPLY, by its class (R142). -/
theorem burstAfter_eq_ite (burst : Nat) (c : ReqClass) (ready : Bool) :
    burstAfter burst c ready = if c = .ordinary then 0 else if ready then burst + 1 else burst := by
  cases c <;> rfl

/-- A reply takes its entry out of the queue, of which it was the head, and sets the burst count (R138, R142). -/
theorem modPort_giveUp_reply {e : Entry} {older younger : List Entry}
    (hentries : (s.port p).requests.entries = older ++ e :: younger) (holder : ∀ x ∈ older, x.cls ≠ e.cls) :
    (s.modPort p fun q => q.giveUp (.reply e)) =
      (s.modRequests p fun r => { r with entries := older ++ younger }).modTransmit p fun t =>
        { t with
          burst := if e.cls = .ordinary then 0
            else if decide (t.hold = false) &&
                ((s.port p).requests.head .ordinary).any fun x => x.state == .done then t.burst + 1
            else t.burst } := by
  have hremoved : removeFirst (fun x => x.cls == e.cls) (s.port p).requests.entries = older ++ younger := by
    rw [hentries]
    exact removeFirst_first (by simp) fun x hx => by simpa using holder x hx
  rw [State.modTransmit, State.modRequests, modPort_modPort]
  refine modPort_congr s ?_
  rw [PortState.giveUp, hremoved, burstAfter_eq_ite, isSome_ordinaryReady]

/-- A reply of any request but a CLOSE that the session waits for is the whole event (R141). -/
theorem afterReply_other {e : Entry} (h : ¬(e.kind = .closeSession ∧ (s.port p).session.state = .closing)) :
    s.afterReply p (.reply e) = s :=
  if_neg h

/-- The reply of the CLOSE that the session waits for starts the teardown (R141). -/
theorem afterReply_close {e : Entry} (hkind : e.kind = .closeSession) (hclosing : (s.port p).session.state = .closing) :
    s.afterReply p (.reply e) = s.startTeardown p .closedByHost :=
  if_pos ⟨hkind, hclosing⟩

theorem exec_transmitChoice (h : s.resetLow = false) : exec (.transmitChoice p) s = .next (s.transmitNew p) :=
  whenRunning_high h _

end

/-- Settles O49: the conditions of R136, and then each source by what its hand-over leaves. -/
theorem transmitChoiceHandsOneFrameOver : Obligations.TransmitChoiceHandsOneFrameOver := by
  intro s p hhigh l r open' handedOver
  rw [exec_transmitChoice hhigh]
  refine ⟨fun h => ?_, fun hopen => ?_⟩
  · rw [transmitNew_none (h.imp_left (mt canTakeNew_iff.1))]
  have htake : (s.port p).link.canTakeNew = true := canTakeNew_iff.2 hopen
  refine ⟨fun x hx => ?_, fun n hn => ?_, fun e result he hresult older younger hentries holder => ?_⟩
  · rw [transmitNew_some htake hx, handOver_eq, frame_refusal]
    rfl
  · rw [transmitNew_some htake hn, handOver_eq]
    rfl
  · intro sentReply
    have hsent : s.handOver p (.reply e) = sentReply := by
      rw [handOver_eq, frame_reply hresult, modPort_giveUp_reply hentries holder]
      rfl
    rw [transmitNew_some htake he, ← hsent]
    refine ⟨fun hother => ?_, fun hkind hclosing => ?_⟩
    · rw [afterReply_other (by rwa [session_handOver])]
    · rw [afterReply_close hkind (by rwa [session_handOver])]

end Sys2Proof.Machine
end

section
/-! SUPPORT. Frames received on a link (Chapter 8): LINK_HELLO, LINK_ACK and LINK_NAK, and sequenced frames in each class
and link state (R158 to R172); and what a step takes. -/

namespace Sys2Proof.Machine

/-- Settles O1: the two arms of a step. -/
theorem stepTakesFrontCommand : Obligations.StepTakesFrontCommand :=
  ⟨step_cons, fun _ => step_nil⟩

/-! ### Sequence numbers (R165) -/

/-- A number `d` before the expected one is at that distance. -/
theorem eq_sub_iff_distance {expected seq : Byte} {d : Nat} (hd : d < 256) :
    seq = expected - BitVec.ofNat 8 d ↔ (expected - seq).toNat = d := by
  constructor <;> intro h <;> bv_omega

/-- A number `d` after the expected one is at the distance that remains of a whole turn. -/
theorem eq_add_iff_distance {expected seq : Byte} {d : Nat} (hpos : 1 ≤ d) (hd : d < 256) :
    seq = expected + BitVec.ofNat 8 d ↔ (expected - seq).toNat = 256 - d := by
  constructor <;> intro h <;> bv_omega

theorem distance_eq_zero_iff {expected seq : Byte} : (expected - seq).toNat = 0 ↔ seq = expected := by
  constructor <;> intro h <;> bv_omega

/-- The classes by the distance before the expected number (R165). -/
theorem seqClass_iff (expected seq : Byte) :
    (seqClass expected seq = .inSequence ↔ (expected - seq).toNat = 0) ∧
    (seqClass expected seq = .duplicate ↔ 1 ≤ (expected - seq).toNat ∧ (expected - seq).toNat ≤ 127) ∧
    (seqClass expected seq = .outOfSequence ↔ 128 ≤ (expected - seq).toNat) := by
  simp only [seqClass, ← distance_eq_zero_iff]
  generalize (expected - seq).toNat = d
  split_ifs <;> simp <;> omega

/-- Settles O10: the classes are the distances 0, 1 to 127, and 128 to 255. -/
theorem sequenceClasses : Obligations.SequenceClasses := by
  intro expected seq
  have hlt : (expected - seq).toNat < 256 := (expected - seq).isLt
  obtain ⟨hsame, hbefore, hother⟩ := seqClass_iff expected seq
  refine ⟨hsame.trans distance_eq_zero_iff, hbefore.trans ⟨fun ⟨hpos, hle⟩ => ?_, ?_⟩,
    hother.trans ⟨fun hfar => ?_, ?_⟩⟩
  · exact ⟨_, hpos, hle, (eq_sub_iff_distance hlt).2 rfl⟩
  · rintro ⟨d, hpos, hle, hseq⟩
    rw [(eq_sub_iff_distance (Nat.lt_of_le_of_lt hle (by decide))).1 hseq]
    exact ⟨hpos, hle⟩
  · exact ⟨256 - (expected - seq).toNat, Nat.sub_pos_of_lt hlt, Nat.sub_le_sub_left hfar 256,
      (eq_add_iff_distance (Nat.sub_pos_of_lt hlt) (Nat.sub_lt (by decide) (Nat.lt_of_lt_of_le (by decide) hfar))).2
        (Nat.sub_sub_self hlt.le).symm⟩
  · rintro ⟨d, hpos, hle, hseq⟩
    rw [(eq_add_iff_distance hpos (Nat.lt_of_le_of_lt hle (by decide))).1 hseq]
    exact Nat.sub_le_sub_left hle 256

/-! ### Frames out of turn, and before UP (R158 to R160, R167) -/

/-- Every sequenced frame arrives by its number; the commands differ in what being offered does. -/
theorem exec_sequenced {c : Instr} {p : Port} {code : Byte} {f : RequestFrame}
    (h : c.sequenced = some (p, code, f)) :
    ∃ offer, ∀ s, exec c s = whenRunning s (s.receiveSequenced p f.seq offer) := by
  cases c <;> cases h <;> exact ⟨_, fun _ => rfl⟩

section
variable {s : State} {p : Port} (hrun : s.resetLow = false)
include hrun

/-- A LINK_ACK is not heard before ANSWERING (R158, R159). -/
theorem exec_linkAck_notListening (h : (s.port p).link.state = .offline ∨ (s.port p).link.state = .aligning)
    (value : Byte) (hold : Bool) : exec (.linkAck p value hold) s = .next s := by
  refine (whenRunning_high hrun _).trans ?_
  rcases h with h | h <;> rw [h]

theorem exec_linkNak_notListening (h : (s.port p).link.state = .offline ∨ (s.port p).link.state = .aligning)
    (value : Byte) : exec (.linkNak p value) s = .next s := by
  refine (whenRunning_high hrun _).trans ?_
  rcases h with h | h <;> rw [h]

/-- In UP a LINK_ACK goes to the outbound rules and to the hold (R164). -/
theorem exec_linkAck_up (h : (s.port p).link.state = .up) (value : Byte) (hold : Bool) :
    exec (.linkAck p value hold) s = .next (s.ackInUp p value hold) := by
  refine (whenRunning_high hrun _).trans ?_
  rw [h]

theorem exec_linkNak_up (h : (s.port p).link.state = .up) (value : Byte) :
    exec (.linkNak p value) s = .next (s.nakInUp p value) := by
  refine (whenRunning_high hrun _).trans ?_
  rw [h]

/-- In ANSWERING a LINK_ACK brings the link UP and is handled there (R160). -/
theorem exec_linkAck_answering (h : (s.port p).link.state = .answering) (value : Byte) (hold : Bool) :
    exec (.linkAck p value hold) s = exec (.linkAck p value hold) (s.modLink p LinkUnit.enterUp) := by
  rw [exec_linkAck_up (s := s.modLink p LinkUnit.enterUp) hrun (by simp [LinkUnit.enterUp])]
  refine (whenRunning_high hrun _).trans ?_
  rw [h]

theorem exec_linkNak_answering (h : (s.port p).link.state = .answering) (value : Byte) :
    exec (.linkNak p value) s = exec (.linkNak p value) (s.modLink p LinkUnit.enterUp) := by
  rw [exec_linkNak_up (s := s.modLink p LinkUnit.enterUp) hrun (by simp [LinkUnit.enterUp])]
  refine (whenRunning_high hrun _).trans ?_
  rw [h]

end

/-- Settles O11: each class of frames in each link state. -/
theorem framesOutOfTurnAndBeforeUp : Obligations.FramesOutOfTurnAndBeforeUp := by
  intro s c p hrun
  refine ⟨fun k f hseq hup => ?_, fun hframe hbefore => ?_, fun hanswering => ?_⟩
  · obtain ⟨offer, hexec⟩ := exec_sequenced hseq
    rw [hexec, whenRunning_high hrun]
    refine ⟨fun hclass => ?_, fun hclass => ?_⟩
    · rw [receive_duplicate offer hup hclass]
      rfl
    · rw [receive_outOfSequence offer hup hclass, modLink_outOfSequence]
  · rcases hframe with ⟨k, f, hseq⟩ | ⟨value, hold, rfl⟩ | ⟨value, rfl⟩
    · obtain ⟨offer, hexec⟩ := exec_sequenced hseq
      rw [hexec, whenRunning_high hrun, receive_notListening _ _ hbefore]
    · exact exec_linkAck_notListening hrun hbefore value hold
    · exact exec_linkNak_notListening hrun hbefore value
  · intro up
    have hup : up none = s.modLink p LinkUnit.enterUp := rfl
    refine ⟨fun hframe => ?_, fun k f hseq => ?_⟩
    · rw [hup]
      rcases hframe with ⟨value, hold, rfl⟩ | ⟨value, rfl⟩
      · exact exec_linkAck_answering hrun hanswering value hold
      · exact exec_linkNak_answering hrun hanswering value
    · obtain ⟨offer, hexec⟩ := exec_sequenced hseq
      refine ⟨fun hzero => ?_, fun hother => ?_⟩
      · rw [hup, hexec, hexec, whenRunning_high hrun,
          whenRunning_high (s := s.modLink p LinkUnit.enterUp) hrun, hzero,
          receive_firstFrame offer hanswering]
      · rw [hexec, whenRunning_high hrun, receive_firstGap offer hanswering hother, State.modLink,
          State.modLink, modPort_modPort]
        rfl

/-- Settles O12: what an accepted request does leaves the links alone, and then its frame is taken. -/
theorem acceptedFrameAcknowledged : Obligations.AcceptedFrameAcknowledged := by
  intro s p k f haccepts
  obtain ⟨accept, hexec, haccept⟩ := exec_request p f k
  obtain ⟨u, e, htaken, hacted, -⟩ := (haccept s).shape
  have hlink : ((accept s).port p).link = (s.port p).link := by
    rw [htaken, link_enqueue, hacted.links]
  refine ⟨_, (hexec s).trans (haccepts.answers accept), ?_⟩
  rw [link_modLink_same, hlink]
  rfl

/-! ### Bring-up (R158 to R162) -/

/-- Settles O6: LINK_HELLO in each link state. -/
theorem helloInEachLinkState : Obligations.HelloInEachLinkState := by
  intro s p seen hrun
  have hexec := whenRunning_high hrun
  refine ⟨fun hstate => ?_, fun hstate => ?_, fun hstate hseen => ?_, fun hstate hseen => ?_,
    fun hstate hseen => ?_⟩
  · refine (hexec _).trans ?_
    rw [hstate]
  · refine (hexec _).trans ?_
    rw [hstate]
    rfl
  · refine (hexec _).trans ?_
    rw [hstate, hseen]
    rfl
  · refine (hexec _).trans ?_
    rw [hstate, hseen]
    rfl
  · refine (hexec _).trans ?_
    rw [hstate, hseen]
    rfl

/-! ### The hold, and frames freed (R143, R144, R170 to R172) -/

/-- The hold bit changes a flag that differs from it (R143, R144). -/
theorem setHold_eq_ite (t : TransmitUnit) (bit : Bool) (now limit : Nat) :
    t.setHold bit now limit =
      if t.hold = bit then t
      else if bit then { t with hold := true, holdTimer := some (now + limit), overdueSent := false }
      else { t with hold := false, holdTimer := none } := by
  unfold TransmitUnit.setHold
  cases h : t.hold <;> cases bit <;> simp

theorem buffered_iff {l : LinkUnit} {seq : Byte} : l.buffered seq = true ↔ ∃ g ∈ l.replay, g.seq = seq := by
  simp [LinkUnit.buffered]

theorem not_buffered {l : LinkUnit} {seq : Byte} (h : ∀ g ∈ l.replay, g.seq ≠ seq) : ¬l.buffered seq = true :=
  fun hin => let ⟨g, hg, hseq⟩ := buffered_iff.1 hin; h g hg hseq

/-- The first frame with a number goes with all older ones (R170). -/
theorem freeThrough_append {old rest : List LinkFrame} {f : LinkFrame} (hold : ∀ g ∈ old, g.seq ≠ f.seq) :
    freeThrough f.seq (old ++ f :: rest) = rest := by
  induction old with
  | nil => exact if_pos rfl
  | cons g old ih =>
    rw [List.cons_append, freeThrough, if_neg (hold g List.mem_cons_self)]
    exact ih fun x hx => hold x (List.mem_cons_of_mem g hx)

/-- The first frame with a number stays when the older ones go (R171). -/
theorem freeBefore_append {old rest : List LinkFrame} {f : LinkFrame} (hold : ∀ g ∈ old, g.seq ≠ f.seq) :
    freeBefore f.seq (old ++ f :: rest) = f :: rest := by
  induction old with
  | nil => exact if_pos rfl
  | cons g old ih =>
    rw [List.cons_append, freeBefore, if_neg (hold g List.mem_cons_self)]
    exact ih fun x hx => hold x (List.mem_cons_of_mem g hx)

/-- The position stays while its frame does, and falls to the oldest frame that is left (R170). -/
theorem positionAfter_eq_ite (position : Option Byte) (rest : List LinkFrame) :
    positionAfter position rest =
      if position = none then none
      else if rest.any (fun g => position == some g.seq) then position
      else rest.head?.map LinkFrame.seq := by
  cases position with
  | none => rfl
  | some q =>
    have hsame : (rest.any fun g => some q == some g.seq) = rest.any fun g => g.seq == q := by
      congr 1; funext g; simp [eq_comm]
    rw [hsame]
    cases rest <;> rfl

/-- Frames that are freed restart the timer, or stop it with the last (R170, R172). -/
theorem free_shorter {l : LinkUnit} {rest : List LinkFrame} (h : rest.length < l.replay.length)
    (now timeout : Nat) :
    l.free rest now timeout =
      { l with
        replay := rest
        retransmit := positionAfter l.retransmit rest
        replayTimer := if rest = [] then none else some (now + timeout)
        timeouts := 0 } :=
  if_pos h

/-- Where none is freed the timer runs on. -/
theorem free_same (l : LinkUnit) (now timeout : Nat) :
    l.free l.replay now timeout = { l with retransmit := positionAfter l.retransmit l.replay } :=
  if_neg (lt_irrefl _)

/-- A LINK_ACK that names a buffered frame (R170). -/
theorem acknowledge_buffered {l : LinkUnit} {old rest : List LinkFrame} {f : LinkFrame}
    (hreplay : l.replay = old ++ f :: rest) (hold : ∀ g ∈ old, g.seq ≠ f.seq) (now timeout : Nat) :
    l.acknowledge f.seq now timeout =
      { l with
        replay := rest
        retransmit := positionAfter l.retransmit rest
        replayTimer := if rest = [] then none else some (now + timeout)
        timeouts := 0 } := by
  have hin : l.buffered f.seq = true := buffered_iff.2 ⟨f, by simp [hreplay], rfl⟩
  rw [LinkUnit.acknowledge, if_pos hin, hreplay, freeThrough_append hold, free_shorter]
  rw [hreplay, List.length_append, List.length_cons]
  omega

/-- Settles O8: a LINK_ACK by whether it names a buffered frame, and its hold bit. -/
theorem ackFreesFramesAndCarriesHold : Obligations.AckFreesFramesAndCarriesHold := by
  intro s p value hold hrun hup held
  have hheld : ∀ u : State, held u = u.modTransmit p fun t => t.setHold hold s.now (ticks s.holdLimit) :=
    fun u => congrArg (u.modTransmit p) (funext fun t => (setHold_eq_ite t hold _ _).symm)
  rw [exec_linkAck_up hrun hup, State.ackInUp]
  refine ⟨fun old f rest hreplay hseq hfirst => ?_, fun hnone => ?_⟩
  · subst hseq
    rw [hheld]
    congr 2
    refine modLink_congr s ?_
    rw [acknowledge_buffered hreplay hfirst, positionAfter_eq_ite]
  · have hsame : (s.modLink p fun l => l.acknowledge value s.now (ticks s.replayTimeout)) = s :=
      modLink_id s (if_neg (not_buffered hnone))
    rw [hheld, hsame]

/-- A LINK_NAK that names a buffered frame (R171). -/
theorem negative_buffered {l : LinkUnit} {old rest : List LinkFrame} {f : LinkFrame}
    (hreplay : l.replay = old ++ f :: rest) (hold : ∀ g ∈ old, g.seq ≠ f.seq) (now timeout : Nat) :
    l.negative f.seq now timeout =
      { l with
        replay := f :: rest
        retransmit := some f.seq
        replayTimer := if old = [] then l.replayTimer else some (now + timeout)
        timeouts := if old = [] then l.timeouts else 0 } := by
  have hin : l.buffered f.seq = true := buffered_iff.2 ⟨f, by simp [hreplay], rfl⟩
  rw [LinkUnit.negative, if_pos hin, hreplay, freeBefore_append hold]
  cases old with
  | nil =>
    rw [List.nil_append] at hreplay
    rw [← hreplay, free_same]
    rfl
  | cons g old =>
    rw [free_shorter]
    · rfl
    · simp only [hreplay, List.length_append, List.length_cons]
      omega

/-- A LINK_NAK that names the next outbound sequence frees the whole buffer (R171). -/
theorem negative_nextOut {l : LinkUnit} (hnone : ∀ g ∈ l.replay, g.seq ≠ l.nextOut) (now timeout : Nat) :
    l.negative l.nextOut now timeout =
      { l with
        replay := []
        retransmit := none
        replayTimer := if l.replay = [] then l.replayTimer else none
        timeouts := if l.replay = [] then l.timeouts else 0 } := by
  rw [LinkUnit.negative, if_neg (not_buffered hnone), if_pos rfl]
  by_cases hempty : l.replay = []
  · have hfree := free_same l now timeout
    rw [hempty] at hfree
    rw [hfree]
    simp [hempty]
  · rw [free_shorter (l := l) (rest := []) (List.length_pos_iff.2 hempty)]
    simp [hempty]

/-- A LINK_NAK with any other value changes nothing (R171). -/
theorem negative_other {l : LinkUnit} {value : Byte} (hnone : ∀ g ∈ l.replay, g.seq ≠ value)
    (hnext : value ≠ l.nextOut) (now timeout : Nat) : l.negative value now timeout = l := by
  rw [LinkUnit.negative, if_neg (not_buffered hnone), if_neg hnext]

/-- Settles O9: the three values that a LINK_NAK can carry. -/
theorem nakStartsRetransmission : Obligations.NakStartsRetransmission := by
  intro s p value hrun hup
  rw [exec_linkNak_up hrun hup, State.nakInUp]
  refine ⟨fun old f rest hreplay hseq hfirst => ?_, fun hnone hnext => ?_, fun hnone hnext => ?_⟩
  · subst hseq
    exact congrArg _ (modLink_congr s (negative_buffered hreplay hfirst _ _))
  · subst hnext
    exact congrArg _ (modLink_congr s (negative_nextOut hnone _ _))
  · exact congrArg _ (modLink_id s (negative_other hnone hnext _ _))

end Sys2Proof.Machine
end

section
/-! SUPPORT. The frames that the transmitter sends again, and the three link-control frames (R168, R169, R175, R201). -/

namespace Sys2Proof.Machine

/-- A frame is sent beside a change of its port's Link Unit. -/
theorem send_modLink (s : State) (p : Port) (g : LinkUnit → LinkUnit) (f : LinkFrame) :
    (s.modLink p g).send p f = s.modPort p fun q => { q with link := g q.link, sent := q.sent ++ [f] } := by
  rw [State.send, State.modLink, modPort_modPort]

theorem noControlPending_iff {l : LinkUnit} :
    l.noControlPending = true ↔ l.helloPending = false ∧ l.pendingNak = none ∧ l.pendingAck = none := by
  simp [LinkUnit.noControlPending, and_assoc]

/-! ### RETRANSMIT (R175) -/

/-- The frame at the position is the first with its number. -/
theorem resendFrame_eq {l : LinkUnit} {older younger : List LinkFrame} {f : LinkFrame}
    (hreplay : l.replay = older ++ f :: younger) (holder : ∀ g ∈ older, g.seq ≠ f.seq)
    (hposition : l.retransmit = some f.seq) : l.resendFrame = some f := by
  simp only [LinkUnit.resendFrame, hposition]
  exact List.find?_eq_some_iff_append.2 ⟨by simp, older, younger, hreplay, fun g hg => by simpa using holder g hg⟩

theorem resendFrame_none {l : LinkUnit} (h : l.retransmit = none) : l.resendFrame = none := by
  simp only [LinkUnit.resendFrame, h]

/-- After its frame was sent the position is at the next one, or at none (R175). -/
theorem moveOn_eq {l : LinkUnit} {older younger : List LinkFrame} {f : LinkFrame}
    (hreplay : l.replay = older ++ f :: younger) (holder : ∀ g ∈ older, g.seq ≠ f.seq)
    (hposition : l.retransmit = some f.seq) :
    l.moveOn = { l with retransmit := younger.head?.map LinkFrame.seq } := by
  simp only [LinkUnit.moveOn, hposition, nextBuffered, hreplay, freeThrough_append holder]

section
variable {s : State} {p : Port} (hrun : s.resetLow = false)
include hrun

theorem exec_retransmit_sends (hup : (s.port p).link.state = .up)
    (hquiet : (s.port p).link.noControlPending = true) {f : LinkFrame}
    (hframe : (s.port p).link.resendFrame = some f) :
    exec (.retransmit p) s = .next ((s.modLink p LinkUnit.moveOn).send p f) := by
  refine (whenRunning_high hrun _).trans ?_
  rw [if_pos ⟨hup, hquiet⟩, hframe]

theorem exec_retransmit_idle (h : ¬((s.port p).link.state = .up ∧ (s.port p).link.noControlPending = true) ∨
    (s.port p).link.resendFrame = none) : exec (.retransmit p) s = .next s := by
  refine (whenRunning_high hrun _).trans ?_
  by_cases hfree : (s.port p).link.state = .up ∧ (s.port p).link.noControlPending = true
  · rw [if_pos hfree, h.resolve_left (not_not_intro hfree)]
  · rw [if_neg hfree]

/-! ### The link-control frames (R168, R169) -/

theorem exec_sendLinkHello_sends
    (hstate : (s.port p).link.state = .aligning ∨ (s.port p).link.state = .answering)
    (hpending : (s.port p).link.helloPending = true) :
    exec (.sendLinkHello p) s = .next ((s.modLink p fun l => { l with helloPending := false }).send p
      (controlFrame helloCode (helloFlags (s.port p).link.state) 0)) :=
  (whenRunning_high hrun _).trans (congrArg _ (if_pos ⟨hstate, hpending⟩))

theorem exec_sendLinkHello_idle
    (h : ¬(((s.port p).link.state = .aligning ∨ (s.port p).link.state = .answering) ∧
      (s.port p).link.helloPending = true)) : exec (.sendLinkHello p) s = .next s :=
  (whenRunning_high hrun _).trans (congrArg _ (if_neg h))

theorem exec_sendLinkNak_sends (hup : (s.port p).link.state = .up) {value : Byte}
    (hpending : (s.port p).link.pendingNak = some value) :
    exec (.sendLinkNak p) s = .next ((s.modLink p fun l => { l with pendingNak := none }).send p
      (controlFrame nakCode 0 value)) := by
  refine (whenRunning_high hrun _).trans ?_
  rw [hup, hpending]

theorem exec_sendLinkNak_idle (h : (s.port p).link.state ≠ .up ∨ (s.port p).link.pendingNak = none) :
    exec (.sendLinkNak p) s = .next s := by
  refine (whenRunning_high hrun _).trans ?_
  split
  · rename_i hup hpending
    rcases h with h | h
    · exact absurd hup h
    · rw [h] at hpending; cases hpending
  all_goals rfl

theorem exec_sendLinkAck_sends (hup : (s.port p).link.state = .up) (hnak : (s.port p).link.pendingNak = none)
    {value : Byte} (hpending : (s.port p).link.pendingAck = some value) :
    exec (.sendLinkAck p) s = .next ((s.modLink p fun l => { l with pendingAck := none }).send p
      (controlFrame ackCode 0 value)) := by
  refine (whenRunning_high hrun _).trans ?_
  rw [hup, hnak, hpending]

theorem exec_sendLinkAck_idle (h : (s.port p).link.state ≠ .up ∨ (s.port p).link.pendingNak ≠ none ∨
    (s.port p).link.pendingAck = none) : exec (.sendLinkAck p) s = .next s := by
  refine (whenRunning_high hrun _).trans ?_
  split
  · rename_i hup hnak hpending
    rcases h with h | h | h
    · exact absurd hup h
    · exact absurd hnak h
    · rw [h] at hpending; cases hpending
  all_goals rfl

end

/-- The flags of a LINK_HELLO: seen in ANSWERING alone (R201). -/
theorem helloFlags_eq_ite (state : LinkState) : helloFlags state = if state = .answering then 2 else 0 := by
  cases state <;> rfl

/-- Settles O50: each transmit command where it has a frame to send, and where it has none. -/
theorem linkFramesSentAgainAndControlFrames : Obligations.LinkFramesSentAgainAndControlFrames := by
  intro s p hrun l sends control quietLine
  refine ⟨fun older f younger hup hquiet hreplay holder hposition => ?_, fun hidle => ?_,
    fun hstate hpending => ?_, fun hidle => ?_, fun v hup hpending => ⟨?_, ?_⟩, fun hidle => ?_,
    fun v hup hnak hpending => ?_, fun hidle => ?_⟩
  · rw [exec_retransmit_sends hrun hup (noControlPending_iff.2 hquiet)
      (resendFrame_eq hreplay holder hposition), send_modLink]
    exact congrArg _ (modPort_congr s (by rw [moveOn_eq hreplay holder hposition]))
  · refine exec_retransmit_idle hrun ?_
    rw [noControlPending_iff]
    rcases hidle with hstate | hbusy | hnone
    · exact .inl fun h => hstate h.1
    · exact .inl fun h => hbusy h.2
    · exact .inr (resendFrame_none hnone)
  · rw [exec_sendLinkHello_sends hrun hstate hpending, send_modLink, helloFlags_eq_ite]
    rfl
  · refine exec_sendLinkHello_idle hrun fun ⟨hstate, hpending⟩ => ?_
    rcases hidle with hnone | hup | hoff
    · exact absurd hpending (by simp [show (s.port p).link.helloPending = false from hnone])
    · simp [show (s.port p).link.state = .up from hup] at hstate
    · simp [show (s.port p).link.state = .offline from hoff] at hstate
  · rw [exec_sendLinkNak_sends hrun hup hpending, send_modLink]
    rfl
  · exact exec_sendLinkAck_idle hrun (.inr (.inl (by
      rw [show (s.port p).link.pendingNak = some v from hpending]; exact Option.some_ne_none v)))
  · exact exec_sendLinkNak_idle hrun hidle
  · rw [exec_sendLinkAck_sends hrun hup hnak hpending, send_modLink]
    rfl
  · exact exec_sendLinkAck_idle hrun (hidle.imp_right .inr)

end Sys2Proof.Machine
end

section
/-! SUPPORT. Every replay buffer stays in order (R170 to R175): what keeps one Link Unit in order, and what each command
does to the links. -/

namespace Sys2Proof.Machine

/-! ### Consecutive numbers (R170) -/

theorem consecutiveTo_append {next : Byte} {old rest : List LinkFrame} (h : consecutiveTo next (old ++ rest)) :
    consecutiveTo next rest := by
  induction old with
  | nil => exact h
  | cons g old ih => exact ih h.2

/-- The next frame is numbered with the number that the others end before. -/
theorem consecutiveTo_concat {next : Byte} {fs : List LinkFrame} {f : LinkFrame} (h : consecutiveTo next fs)
    (hseq : f.seq = next) : consecutiveTo (next + 1) (fs ++ [f]) := by
  induction fs with
  | nil =>
    refine ⟨?_, trivial⟩
    rw [hseq]
    simp
  | cons g fs ih =>
    refine ⟨?_, ih h.2⟩
    change g.seq = next + 1 - BitVec.ofNat 8 ((fs ++ [f]).length + 1)
    rw [h.1, List.length_append, List.length_singleton]
    bv_omega

/-- What stays of a buffer is its younger end. -/
theorem freeBefore_suffix (seq : Byte) (fs : List LinkFrame) : freeBefore seq fs <:+ fs := by
  induction fs with
  | nil => exact List.suffix_rfl
  | cons f fs ih =>
    rw [freeBefore]
    split
    · exact List.suffix_rfl
    · exact ih.trans (List.suffix_cons f fs)

theorem freeThrough_suffix (seq : Byte) (fs : List LinkFrame) : freeThrough seq fs <:+ fs := by
  induction fs with
  | nil => exact List.suffix_rfl
  | cons f fs ih =>
    rw [freeThrough]
    split
    · exact List.suffix_cons f fs
    · exact ih.trans (List.suffix_cons f fs)

/-- A frame that is named stays when the older ones go. -/
theorem mem_freeBefore {seq : Byte} {fs : List LinkFrame} (h : ∃ g ∈ fs, g.seq = seq) :
    ∃ g ∈ freeBefore seq fs, g.seq = seq := by
  obtain ⟨g, hg, hseq⟩ := h
  induction fs with
  | nil => cases hg
  | cons f fs ih =>
    rw [freeBefore]
    split
    · exact ⟨g, hg, hseq⟩
    · rename_i hne
      rcases List.mem_cons.1 hg with rfl | hg
      · exact absurd hseq hne
      · exact ih hg

/-- The oldest frame of a list is in it. -/
theorem exists_mem_of_head? {fs : List LinkFrame} {q : Byte} (h : fs.head?.map LinkFrame.seq = some q) :
    ∃ g ∈ fs, g.seq = q := by
  obtain ⟨g, hg, hseq⟩ := Option.map_eq_some_iff.1 h
  exact ⟨g, List.mem_of_mem_head? hg, hseq⟩

/-- A position after frames were freed names a frame that is left (R170). -/
theorem mem_of_positionAfter {position : Option Byte} {rest : List LinkFrame} {q : Byte}
    (h : positionAfter position rest = some q) : ∃ g ∈ rest, g.seq = q := by
  rw [positionAfter_eq_ite] at h
  split at h
  · cases h
  · split at h
    · rename_i hany
      obtain ⟨g, hg, hnamed⟩ := List.any_eq_true.1 hany
      rw [h] at hnamed
      exact ⟨g, hg, (Option.some.inj (eq_of_beq hnamed)).symm⟩
    · exact exists_mem_of_head? h

/-! ### One Link Unit -/

/-- A link with an empty buffer is in order. -/
theorem replayInOrder_of_empty {l : LinkUnit} (hreplay : l.replay = []) (hposition : l.retransmit = none)
    (htimer : l.replayTimer = none) : l.ReplayInOrder := by
  refine ⟨by rw [hreplay]; trivial, by simp [hreplay], by simp [hreplay, htimer], fun q hq => ?_⟩
  rw [hposition] at hq
  cases hq

theorem enterUp_replayInOrder (l : LinkUnit) : l.enterUp.ReplayInOrder := replayInOrder_of_empty rfl rfl rfl

theorem lose_replayInOrder (l : LinkUnit) (state : LinkState) (now : Nat) : (l.lose state now).ReplayInOrder := by
  cases state <;> exact replayInOrder_of_empty rfl rfl rfl

/-- What the order of a replay buffer speaks of. -/
structure LinkUnit.SameReplay (l m : LinkUnit) : Prop where
  replay : m.replay = l.replay
  nextOut : m.nextOut = l.nextOut
  replayTimer : m.replayTimer = l.replayTimer
  retransmit : m.retransmit = l.retransmit

section
variable {l : LinkUnit} (h : l.ReplayInOrder)
include h

theorem LinkUnit.ReplayInOrder.of_same {m : LinkUnit} (hsame : l.SameReplay m) : m.ReplayInOrder := by
  obtain ⟨hconsecutive, hroom, htimer, hposition⟩ := h
  obtain ⟨hreplay, hnext, hreplayTimer, hretransmit⟩ := hsame
  refine ⟨by rwa [hreplay, hnext], by rwa [hreplay], by rwa [hreplay, hreplayTimer], fun q hq => ?_⟩
  rw [LinkUnit.buffered, hreplay]
  exact hposition q (hretransmit ▸ hq)

/-- Frames are freed from the older end (R170, R172). -/
theorem LinkUnit.ReplayInOrder.free {rest : List LinkFrame} (hrest : rest <:+ l.replay) (now timeout : Nat) :
    (l.free rest now timeout).ReplayInOrder := by
  by_cases hlength : rest.length < l.replay.length
  · rw [free_shorter hlength]
    obtain ⟨old, hreplay⟩ := hrest
    refine ⟨consecutiveTo_append (hreplay.symm ▸ h.consecutive), hlength.le.trans h.room, ?_, fun q hq =>
      buffered_iff.2 (mem_of_positionAfter hq)⟩
    by_cases hempty : rest = [] <;> simp [hempty]
  · rw [hrest.eq_of_length_le (Nat.le_of_not_lt hlength), free_same]
    exact ⟨h.consecutive, h.room, h.timer, fun q hq => buffered_iff.2 (mem_of_positionAfter hq)⟩

omit h in
theorem replay_free (rest : List LinkFrame) (now timeout : Nat) : (l.free rest now timeout).replay = rest := by
  unfold LinkUnit.free
  split <;> rfl

/-- The position is set to a buffered frame, or to none. -/
theorem LinkUnit.ReplayInOrder.withPosition {position : Option Byte}
    (hposition : ∀ q, position = some q → ∃ g ∈ l.replay, g.seq = q) :
    LinkUnit.ReplayInOrder { l with retransmit := position } :=
  ⟨h.consecutive, h.room, h.timer, fun q hq => buffered_iff.2 (hposition q hq)⟩

theorem LinkUnit.ReplayInOrder.acknowledge (value : Byte) (now timeout : Nat) :
    (l.acknowledge value now timeout).ReplayInOrder := by
  unfold LinkUnit.acknowledge
  split
  · exact h.free (freeThrough_suffix value l.replay) now timeout
  · exact h

theorem LinkUnit.ReplayInOrder.negative (value : Byte) (now timeout : Nat) :
    (l.negative value now timeout).ReplayInOrder := by
  unfold LinkUnit.negative
  split
  · rename_i hin
    refine (h.free (freeBefore_suffix value l.replay) now timeout).withPosition fun q hq => ?_
    cases hq
    rw [replay_free]
    exact mem_freeBefore (buffered_iff.1 hin)
  · split
    · exact (h.free (List.nil_suffix) now timeout).withPosition nofun
    · exact h

/-- A new frame with the next number enters a buffer with room (R170, R172). -/
theorem LinkUnit.ReplayInOrder.keep (hroom : l.replay.length < 32) {f : LinkFrame} (hseq : f.seq = l.nextOut)
    (now timeout : Nat) : (l.keep f now timeout).ReplayInOrder := by
  obtain ⟨hconsecutive, -, htimer, hposition⟩ := h
  refine ⟨consecutiveTo_concat hconsecutive hseq, ?_, ?_, fun q hq => ?_⟩
  · rw [LinkUnit.keep, List.length_append]
    exact hroom
  · simp only [LinkUnit.keep, List.append_eq_nil_iff, List.cons_ne_self, and_false, iff_false]
    split
    · exact Option.some_ne_none _
    · rename_i hfull
      exact mt htimer.1 hfull
  · obtain ⟨g, hg, hgseq⟩ := buffered_iff.1 (hposition q hq)
    exact buffered_iff.2 ⟨g, List.mem_append_left _ hg, hgseq⟩

/-- An expiry of the running timer resends the whole buffer, which holds a frame (R173). -/
theorem LinkUnit.ReplayInOrder.timeout (hrunning : l.replayTimer ≠ none) (now timeout : Nat) :
    (l.timeout now timeout).ReplayInOrder := by
  refine ⟨h.consecutive, h.room, ?_, fun q hq => buffered_iff.2 (exists_mem_of_head? hq)⟩
  simp only [LinkUnit.timeout, reduceCtorEq, false_iff]
  exact mt h.timer.2 hrunning

/-- The position moves to a younger frame of the buffer (R175). -/
theorem LinkUnit.ReplayInOrder.moveOn : l.moveOn.ReplayInOrder := by
  unfold LinkUnit.moveOn
  split
  · refine h.withPosition fun q hq => ?_
    obtain ⟨g, hg, hseq⟩ := exists_mem_of_head? hq
    exact ⟨g, (freeThrough_suffix _ _).subset hg, hseq⟩
  · exact h

theorem LinkUnit.ReplayInOrder.startHello (state : LinkState) (now : Nat) :
    (l.startHello state now).ReplayInOrder := by
  cases state <;> exact h.of_same ⟨rfl, rfl, rfl, rfl⟩

theorem LinkUnit.ReplayInOrder.outOfSequence : l.outOfSequence.ReplayInOrder := by
  unfold LinkUnit.outOfSequence
  split
  · exact h
  · exact h.of_same ⟨rfl, rfl, rfl, rfl⟩

end

/-! ### Every link of the part -/

/-- Every replay buffer is in order. -/
def State.LinksInOrder (s : State) : Prop := ∀ p, (s.port p).link.ReplayInOrder

/-- No link is touched. -/
def SameLinks (s t : State) : Prop := ∀ q, (t.port q).link = (s.port q).link

theorem SameLinks.refl (s : State) : SameLinks s s := fun _ => rfl

theorem SameLinks.trans {s t u : State} (h : SameLinks s t) (g : SameLinks t u) : SameLinks s u :=
  fun q => (g q).trans (h q)

theorem Settles.sameLinks {s t : State} (h : Settles s t) : SameLinks s t := fun q => (h.port q).link

theorem Quiet.sameLinks {s t : State} (h : Quiet s t) : SameLinks s t := h.settles.sameLinks

/-- The end of a session leaves the links alone. -/
theorem Torn.sameLinks {p : Port} {s t : State} (h : Torn p s t) : SameLinks s t := by
  intro q
  by_cases hq : q = p
  · rw [hq, h.link]
  · exact (h.others q hq).link

/-- A request that joins its queue leaves the links alone. -/
theorem Joins.sameLinks {p : Port} {k : RequestKind} {s t : State} (h : Joins p k s t) : SameLinks s t := by
  obtain ⟨u, e, rfl, hacted, -⟩ := h.shape
  exact fun q => (link_enqueue u p q e).trans (hacted.links q)

theorem refuse_sameLinks {s t : State} {p : Port} {f : RequestFrame} {reason : RefusalReason}
    (h : s.refuse p f reason = some t) : SameLinks s t := by
  unfold State.refuse at h
  split at h
  · cases h
    exact fun q => link_modTransmit s p q _
  · cases h

theorem tellGranted_sameLinks (s : State) (x : Participant) : SameLinks s (s.tellGranted x) := by
  unfold State.tellGranted
  split
  · exact fun q => (link_present _ _ q).trans (link_modRequests s _ q _)
  · exact (modPool_quiet s _).sameLinks

theorem takeGrant_sameLinks (s : State) : SameLinks s s.takeGrant := by
  have hgrant : ∀ x o, SameLinks s (s.grantTo x o) := fun x o => by
    rw [grantTo_eq]
    exact tellGranted_sameLinks _ x
  unfold State.takeGrant
  split
  · split
    · exact hgrant _ _
    · exact .refl s
  · exact .refl s
  · exact .refl s

theorem requestCompleted_sameLinks (s : State) (p : Port) (g : Entry → Entry) :
    SameLinks s (s.requestCompleted p g) := by
  unfold State.requestCompleted
  split
  · exact SameLinks.trans (fun q => link_modRequests s p q _) (endTeardownIfEmpty_torn _ p).sameLinks
  · exact fun q => (link_present _ p q).trans (link_modRequests s p q _)

theorem readCompleted_sameLinks (s : State) (p : Port) (o : Operation) (reports : List LineReport) :
    SameLinks s (s.readCompleted p o reports) := by
  rw [readCompleted_eq]
  exact SameLinks.trans (readAccounted_quiet s o reports).sameLinks (requestCompleted_sameLinks _ p _)

theorem writeCompleted_sameLinks (s : State) (p : Port) (o : Operation) (reports : List LineReport) :
    SameLinks s (s.writeCompleted p o reports) := by
  have hwritten : SameLinks s { s with inFlight := none, dram := s.dramWritten p o reports } := .refl s
  have hunpinned := hwritten.trans (unpin_quiet _ o.frame).sameLinks
  refine (hunpinned.trans fun q => ?_).trans (requestCompleted_sameLinks _ p _)
  exact link_modRequests _ p q _

theorem holdExpired_sameLinks (s : State) (p : Port) : SameLinks s (s.holdExpired p) := by
  unfold State.holdExpired
  simp only
  split <;> exact fun q => by simp

section
variable {s : State} (h : s.LinksInOrder)
include h

theorem State.LinksInOrder.same {t : State} (hlinks : SameLinks s t) : t.LinksInOrder := fun q => by
  rw [hlinks q]
  exact h q

theorem State.LinksInOrder.modLink {p : Port} {g : LinkUnit → LinkUnit}
    (hg : (g (s.port p).link).ReplayInOrder) : (s.modLink p g).LinksInOrder := by
  intro q
  by_cases hq : q = p
  · subst hq; rwa [link_modLink_same]
  · rw [port_modLink_ne s hq]
    exact h q

/-- A change of a Link Unit beside its replay buffer. -/
theorem State.LinksInOrder.modLink_same {p : Port} {g : LinkUnit → LinkUnit}
    (hg : (s.port p).link.SameReplay (g (s.port p).link)) : (s.modLink p g).LinksInOrder :=
  h.modLink ((h p).of_same hg)

theorem State.LinksInOrder.send (p : Port) (f : LinkFrame) : (s.send p f).LinksInOrder :=
  h.same fun q => link_send s p q f

theorem State.LinksInOrder.enterUp (p : Port) : (s.modLink p LinkUnit.enterUp).LinksInOrder :=
  h.modLink (enterUp_replayInOrder _)

theorem State.LinksInOrder.outOfSequence (p : Port) : (s.modLink p LinkUnit.outOfSequence).LinksInOrder :=
  h.modLink (h p).outOfSequence

theorem State.LinksInOrder.loseLink (p : Port) (state : LinkState) : (s.loseLink p state).LinksInOrder := by
  have hcleared : ((s.modLink p fun l => l.lose state s.now).modTransmit p
      TransmitUnit.clearForLinkLoss).LinksInOrder :=
    (h.modLink (lose_replayInOrder _ state s.now)).same fun q => link_modTransmit _ p q _
  unfold State.loseLink
  simp only
  split
  · exact hcleared.same (startTeardown_torn _ p _).sameLinks
  · exact hcleared

theorem State.LinksInOrder.ackInUp (p : Port) (value : Byte) (hold : Bool) :
    (s.ackInUp p value hold).LinksInOrder :=
  (h.modLink ((h p).acknowledge value s.now (ticks s.replayTimeout))).same fun q => link_modTransmit _ p q _

theorem State.LinksInOrder.nakInUp (p : Port) (value : Byte) : (s.nakInUp p value).LinksInOrder :=
  h.modLink ((h p).negative _ _ _)

theorem State.LinksInOrder.replayExpired {p : Port} (hrunning : (s.port p).link.replayTimer ≠ none) :
    (s.replayExpired p).LinksInOrder := by
  unfold State.replayExpired
  split
  · exact h.modLink ((h p).timeout hrunning _ _)
  · exact h.loseLink p _

/-- A sequenced frame, whatever being offered does beside the links. -/
theorem State.LinksInOrder.receiveSequenced {p : Port} {seq : Byte} {offer : State → Option State}
    (hoffer : ∀ u t, offer u = some t → SameLinks u t) : (s.receiveSequenced p seq offer).LinksInOrder := by
  have hoffered : ∀ u : State, u.LinksInOrder → (u.offerInSequence p seq offer).LinksInOrder := by
    intro u hu
    unfold State.offerInSequence
    split
    · rename_i t ht
      exact (hu.same (hoffer u t ht)).modLink_same ⟨rfl, rfl, rfl, rfl⟩
    · exact hu.outOfSequence p
  unfold State.receiveSequenced State.sequencedIntoUp State.sequencedInUp
  split
  · exact h
  · exact h
  · split
    · exact hoffered _ (h.enterUp p)
    · exact State.LinksInOrder.outOfSequence (h.enterUp p) p
  · split
    · exact hoffered s h
    · exact h.modLink_same ⟨rfl, rfl, rfl, rfl⟩
    · exact h.outOfSequence p

/-- The frame of a source carries the next outbound sequence (R140, R147, R152). -/
theorem State.LinksInOrder.handOver {p : Port} (hroom : (s.port p).link.replay.length < 32) (x : Source) :
    (s.handOver p x).LinksInOrder := by
  have hlink : ((s.modPort p fun q => q.giveUp x).port p).link = (s.port p).link := by
    rw [port_modPort_same, link_giveUp]
  have hgiven : (s.modPort p fun q => q.giveUp x).LinksInOrder := h.same fun q => by
    by_cases hq : q = p
    · subst hq; exact hlink
    · rw [port_modPort_ne s hq]
  refine State.LinksInOrder.send (hgiven.modLink ?_) p _
  rw [hlink]
  refine (h p).keep hroom ?_ _ _
  cases x <;> rfl

theorem State.LinksInOrder.transmitNew (p : Port) : (s.transmitNew p).LinksInOrder := by
  unfold State.transmitNew
  split
  · rename_i htake
    split
    · rename_i x _
      have hhanded := h.handOver (canTakeNew_iff.1 htake).2.2.1 x
      unfold State.afterReply
      split
      · split
        · exact hhanded.same (startTeardown_torn _ p _).sameLinks
        · exact hhanded
      · exact hhanded
      · exact hhanded
    · exact h
  · exact h

end

/-! ### One step -/

theorem linksInOrder_deviceReset (s : State) : s.deviceReset.LinksInOrder := fun p => by
  have hport : s.deviceReset.port p = .reset := reset_port p
  rw [hport]
  exact replayInOrder_of_empty rfl rfl rfl

/-- A sequenced frame: of unknown kind, or a request that arrives. -/
theorem keeps_linksInOrder_of_sequenced {i : Instr} {p : Port} {code : Byte} {f : RequestFrame}
    (hseq : i.sequenced = some (p, code, f)) : Keeps State.LinksInOrder i := by
  rcases arrives_of_sequenced hseq with rfl | ⟨k, f, accept, hexec, hjoins⟩
  · exact .of_running (fun _ => rfl) fun s h => h.receiveSequenced fun _ _ => refuse_sameLinks
  · exact .of_running hexec fun s h => requestArrives_induct h (fun _ => h.enterUp p)
      (fun _ hu => hu.modLink_same ⟨rfl, rfl, rfl, rfl⟩) (fun _ hu => hu.modLink_same ⟨rfl, rfl, rfl, rfl⟩)
      (fun _ hu => hu.outOfSequence p) (fun u _ hu _ => hu.same fun q => link_modTransmit u p q _)
      fun u hu _ => hu.same (hjoins u).sameLinks

/-- The other commands: of the link, of the timers, of the memory channel and of the transmitter. -/
theorem keeps_linksInOrder_of_not_sequenced {i : Instr} (hseq : i.sequenced = none) :
    Keeps State.LinksInOrder i := by
  cases i with
  | deviceReset =>
    intro s t _ ht
    cases ht
    exact linksInOrder_deviceReset s
  | resetRelease a =>
    intro s t h ht
    cases ht
    split <;> exact h
  | receiverLockGained p =>
    refine .of_running (fun _ => rfl) fun s h => ?_
    split
    · exact h.modLink ((h p).startHello _ _)
    all_goals exact h
  | receiverLockLost p =>
    refine .of_running (fun _ => rfl) fun s h => ?_
    split
    · exact h.loseLink p _
    · exact h.modLink ((h p).startHello _ _)
    · exact h.modLink ((h p).startHello _ _)
    · exact h
  | damagedFrame p bytes =>
    refine .of_running (fun _ => rfl) fun s h => ?_
    split
    · exact h
    · split
      · exact h
      all_goals exact h.modLink_same ⟨rfl, rfl, rfl, rfl⟩
  | linkHello p seen =>
    refine .of_running (fun _ => rfl) fun s h => ?_
    split
    · exact h
    · exact h.modLink ((h p).startHello _ _)
    · split
      · exact h.enterUp p
      · exact h
    · split
      · exact h.modLink_same ⟨rfl, rfl, rfl, rfl⟩
      · exact h.loseLink p _
  | linkAck p value hold =>
    refine .of_running (fun _ => rfl) fun s h => ?_
    split
    · exact h
    · exact h
    · exact State.LinksInOrder.ackInUp (h.enterUp p) p _ _
    · exact h.ackInUp p _ _
  | linkNak p value =>
    refine .of_running (fun _ => rfl) fun s h => ?_
    split
    · exact h
    · exact h
    · exact State.LinksInOrder.nakInUp (h.enterUp p) p _
    · exact h.nakInUp p _
  | grant => exact .of_running (fun _ => rfl) fun s h => h.same (takeGrant_sameLinks s)
  | readLinesCompletion reports =>
    refine .of_running (fun _ => rfl) fun s h => ?_
    split
    · split
      · exact h.same (readCompleted_sameLinks s _ _ _)
      all_goals exact h
    · exact h
  | writeLinesCompletion reports =>
    refine .of_running (fun _ => rfl) fun s h => ?_
    split
    · split
      · exact h.same (writeCompleted_sameLinks s _ _ _)
      all_goals exact h
    · exact h
  | zeroLinesCompletion =>
    refine .of_running (fun _ => rfl) fun s h => ?_
    split
    · split <;> exact h
    · exact h
  | transmitChoice p => exact .of_running (fun _ => rfl) fun _ h => h.transmitNew p
  | retransmit p =>
    refine .of_running (fun _ => rfl) fun s h => ?_
    split
    · split
      · exact State.LinksInOrder.send (h.modLink (h p).moveOn) p _
      · exact h
    · exact h
  | sendLinkHello p =>
    refine .of_running (fun _ => rfl) fun s h => ?_
    simp only
    split
    · exact State.LinksInOrder.send (h.modLink_same ⟨rfl, rfl, rfl, rfl⟩) p _
    · exact h
  | sendLinkNak p =>
    refine .of_running (fun _ => rfl) fun s h => ?_
    split
    · exact State.LinksInOrder.send (h.modLink_same ⟨rfl, rfl, rfl, rfl⟩) p _
    all_goals exact h
  | sendLinkAck p =>
    refine .of_running (fun _ => rfl) fun s h => ?_
    split
    · exact State.LinksInOrder.send (h.modLink_same ⟨rfl, rfl, rfl, rfl⟩) p _
    all_goals exact h
  | helloTimerExpiry p =>
    refine .of_running (fun _ => rfl) fun s h => ?_
    split
    · exact State.LinksInOrder.modLink_same (s := s.reachTime _) h ⟨rfl, rfl, rfl, rfl⟩
    · exact h
  | replayTimerExpiry p =>
    refine .of_running (fun _ => rfl) fun s h => ?_
    split
    · rename_i expiry hrunning
      exact State.LinksInOrder.replayExpired (s := s.reachTime expiry) h
        (by rw [port_reachTime, hrunning]; exact Option.some_ne_none expiry)
    · exact h
  | holdTimerExpiry p =>
    refine .of_running (fun _ => rfl) fun s h => ?_
    split
    · exact State.LinksInOrder.same (s := s.reachTime _) h (holdExpired_sameLinks _ p)
    · exact h
  | offerExpiry n =>
    refine .of_running (fun _ => rfl) fun s h => ?_
    split
    · exact State.LinksInOrder.same (s := s.reachTime _) h (((removeOffer_settles _ _).trans
        (raiseNotice_quiet _ _ _).settles).trans (raiseNotice_quiet _ _ _).settles).sameLinks
    · exact h
  | _ => cases hseq

/-- Settles O54: every command keeps each replay buffer in order. -/
theorem stepKeepsReplayInOrder : Obligations.StepKeepsReplayInOrder := by
  intro s t hstep hs
  refine step_keeps (P := State.LinksInOrder) (fun i => ?_) (fun _ _ h => h) (fun _ _ h => h) hstep hs
  cases hseq : i.sequenced with
  | none => exact keeps_linksInOrder_of_not_sequenced hseq
  | some frame => exact keeps_linksInOrder_of_sequenced hseq

end Sys2Proof.Machine
end

section
/-! SUPPORT. Link loss by each of its events, and what it leaves of the port and of the others (R162, R173, R176, R177,
R186). -/

namespace Sys2Proof.Machine

/-- A Link Unit after link loss into a state: cleared, and a LINK_HELLO due at once unless it is OFFLINE (R176). -/
theorem lose_eq (l : LinkUnit) {after : LinkState} (hafter : after ≠ .up) (now : Nat) :
    l.lose after now =
      { state := after, helloTimer := if after = .offline then none else some (now + ticks 1),
        helloPending := decide (after ≠ .offline), expected := 0, nakFlag := false, pendingAck := none,
        pendingNak := none, nextOut := 0, replay := [], retransmit := none, replayTimer := none,
        timeouts := 0, checkErrors := l.checkErrors } := by
  cases after with
  | up => exact absurd rfl hafter
  | offline => rfl
  | aligning => rfl
  | answering => rfl

/-- A port whose Link Unit and Transmit Unit link loss has cleared (R176; R177, step 1). -/
def State.lost (s : State) (p : Port) (after : LinkState) : State :=
  (s.modLink p fun l => l.lose after s.now).modTransmit p TransmitUnit.clearForLinkLoss

section
variable (s : State) (p : Port) (after : LinkState)

theorem inSession_lost : (s.lost p after).inSession p = s.inSession p := by
  simp [State.lost, State.inSession]

theorem session_lost (q : Port) : ((s.lost p after).port q).session = (s.port q).session := by
  simp [State.lost]

theorem requests_lost (q : Port) : ((s.lost p after).port q).requests = (s.port q).requests := by
  simp [State.lost]

theorem port_lost_ne {q : Port} (hq : q ≠ p) : (s.lost p after).port q = s.port q := by
  rw [State.lost, port_modTransmit_ne _ hq, port_modLink_ne _ hq]

theorem transmit_lost : ((s.lost p after).port p).transmit = (s.port p).transmit.clearForLinkLoss := by
  simp [State.lost]

/-- Out of session link loss does no more (R177). -/
theorem loseLink_out (h : s.inSession p = false) : s.loseLink p after = s.lost p after := by
  rw [← inSession_lost s p after] at h
  exact if_neg (by rw [← State.lost, h]; exact Bool.false_ne_true)

/-- In session the port is then torn down (R177). -/
theorem loseLink_in (h : s.inSession p = true) :
    s.loseLink p after = (s.lost p after).startTeardown p .linkLost := by
  rw [← inSession_lost s p after] at h
  exact if_pos h

/-- The other ports keep their links, sessions and requests (R177). -/
theorem loseLink_others {q : Port} (hq : q ≠ p) :
    ((s.loseLink p after).port q).link = (s.port q).link ∧
    ((s.loseLink p after).port q).session = (s.port q).session ∧
    ((s.loseLink p after).port q).requests = (s.port q).requests := by
  cases hsession : s.inSession p with
  | false =>
    rw [loseLink_out s p after hsession, port_lost_ne s p after hq]
    exact ⟨rfl, rfl, rfl⟩
  | true =>
    have hsame := (startTeardown_torn (s.lost p after) p .linkLost).others q hq
    rw [loseLink_in s p after hsession, hsame.link, hsame.session, hsame.requests, port_lost_ne s p after hq]
    exact ⟨rfl, rfl, rfl⟩

theorem link_loseLink : ((s.loseLink p after).port p).link = ((s.lost p after).port p).link := by
  cases hsession : s.inSession p with
  | false => rw [loseLink_out s p after hsession]
  | true => rw [loseLink_in s p after hsession, (startTeardown_torn _ p _).link]

end

/-- The port of a session that its link loss tears down: the cause, the entries that are kept, the state by whether one
is and a disable is pending, and no notice but at a pending disable's end (R182, R186, R188). -/
theorem startTeardown_linkLost (s : State) (p : Port) :
    (((s.startTeardown p .linkLost).port p).session.cause = some .linkLost ∧
    ((s.startTeardown p .linkLost).port p).requests.entries = (s.port p).requests.entries.filter Entry.inMem) ∧
    ((s.startTeardown p .linkLost).port p).session.state =
      (if ((s.startTeardown p .linkLost).port p).requests.entries ≠ [] then .teardown
      else if (s.port p).session.disablePending = true then .disabled else .closed) ∧
    ((s.port p).session.disablePending = false →
      ((s.startTeardown p .linkLost).port p).transmit = (s.port p).transmit.clearForTeardown) := by
  obtain ⟨⟨hcause, hstate⟩, htransmit⟩ := endTeardownIfEmpty_same (s.tornDown p .linkLost) p
  have hends := endState_disables ((s.tornDown p .linkLost).port p).session
  rw [startTeardown_eq, requests_endTeardownIfEmpty, entries_tornDown]
  rw [session_tornDown] at hcause hstate htransmit hends
  rw [entries_tornDown] at hstate htransmit
  refine ⟨⟨hcause, rfl⟩, ?_, fun hpending => ?_⟩
  · rw [hstate, hends.1]
    by_cases hkept : (s.port p).requests.entries.filter Entry.inMem = [] <;> simp [hkept]
  · rw [htransmit, hends.2.2, transmit_tornDown, hpending]
    simp

/-- The three events of link loss (R158, R162, R173, R176): each loses the link at the time of the event. -/
theorem exec_loses_link {s base : State} {p : Port} {c : Instr} {after : LinkState} (hrun : s.resetLow = false)
    (hup : (s.port p).link.state = .up)
    (h : (c = .receiverLockLost p ∧ after = .offline ∧ base = s) ∨
      (c = .linkHello p false ∧ after = .answering ∧ base = s) ∨
      (∃ time, c = .replayTimerExpiry p ∧ after = .aligning ∧ base = { s with now := max s.now time } ∧
        (s.port p).link.replayTimer = some time ∧ (s.port p).link.timeouts = 3)) :
    exec c s = .next (base.loseLink p after) ∧ after ≠ .up ∧ base.ports = s.ports := by
  rcases h with ⟨rfl, rfl, rfl⟩ | ⟨rfl, rfl, rfl⟩ | ⟨time, rfl, rfl, rfl, htimer, hfourth⟩
  · refine ⟨(whenRunning_high hrun _).trans ?_, nofun, rfl⟩
    rw [hup]
  · refine ⟨(whenRunning_high hrun _).trans ?_, nofun, rfl⟩
    rw [hup]
    rfl
  · refine ⟨(whenRunning_high hrun _).trans ?_, nofun, rfl⟩
    rw [htimer]
    exact congrArg _ (if_neg (by rw [port_reachTime, hfourth]; exact lt_irrefl 3))

/-- Settles O7: each event loses the link, and a port in session is then torn down. -/
theorem linkLossClearsThePort : Obligations.LinkLossClearsThePort := by
  intro s base p c after hrun hup hevent cleared
  obtain ⟨hexec, hafter, hports⟩ := exec_loses_link hrun hup hevent
  have hport : ∀ q, base.port q = s.port q := fun q => by rw [State.port, State.port, hports]
  have hsession : base.inSession p = s.inSession p := by rw [State.inSession, State.inSession, hport]
  have hcleared : cleared = base.lost p after := by
    rw [State.lost, show (fun l : LinkUnit => l.lose after base.now) = _ from
      funext fun l => lose_eq l hafter base.now]
    rfl
  rw [hcleared, hexec]
  refine ⟨fun hout => ?_, fun hin => ?_, base.loseLink p after, rfl, link_loseLink base p after, fun hin => ?_,
    fun q hq => ?_⟩
  · rw [loseLink_out base p after (hsession.trans hout)]
  · rw [loseLink_in base p after (hsession.trans hin)]
  · obtain ⟨⟨hcause, hentries⟩, hstate, htransmit⟩ := startTeardown_linkLost (base.lost p after) p
    rw [session_lost, hport] at hstate htransmit
    rw [requests_lost, hport] at hentries
    rw [loseLink_in base p after (hsession.trans hin)]
    refine ⟨hcause, hentries, hstate, fun hpending => (htransmit hpending).trans ?_⟩
    rw [transmit_lost]
    rfl
  · rw [← hport]
    exact loseLink_others base p after hq

end Sys2Proof.Machine
end

section
/-! SUPPORT. Bytes of link frames: fields, the check of R200 and the frame check of R163; and the lock and damaged-frame
events (R158, R159, R163). -/

namespace Sys2Proof.Machine

/-! ### Fields and the bytes of a number (R200) -/

theorem field_zero (bytes : List Byte) (offset : Nat) : field bytes offset 0 = 0 := rfl

/-- A field is its first byte and the field after it. -/
theorem field_succ (bytes : List Byte) (offset size : Nat) :
    field bytes offset (size + 1) = (bytes.getD offset 0).toNat + 256 * field bytes (offset + 1) size := by
  unfold field
  by_cases h : offset < bytes.length
  · rw [List.drop_eq_getElem_cons h, List.take_succ_cons, leValue, List.getD_eq_getElem bytes 0 h]
  · have hend : bytes.length ≤ offset := Nat.le_of_not_lt h
    rw [List.drop_eq_nil_of_le hend, List.drop_eq_nil_of_le (Nat.le_succ_of_le hend), List.take_nil,
      List.take_nil, List.getD_eq_default bytes 0 hend]
    rfl

theorem field_one (bytes : List Byte) (offset : Nat) : field bytes offset 1 = (bytes.getD offset 0).toNat := by
  rw [field_succ, field_zero, Nat.mul_zero, Nat.add_zero]

theorem field_two (bytes : List Byte) (offset : Nat) :
    field bytes offset 2 = (bytes.getD offset 0).toNat + 256 * (bytes.getD (offset + 1) 0).toNat := by
  rw [field_succ, field_one]

/-- The two bytes of a check, least significant first. -/
def checkBytes (check : Check) : List Byte := [check.extractLsb' 0 8, check.extractLsb' 8 8]

theorem leBytes_two_toNat (check : Check) : leBytes 2 check.toNat = checkBytes check := by
  have hlow : BitVec.ofNat 8 check.toNat = check.extractLsb' 0 8 := rfl
  have hhigh : BitVec.ofNat 8 (check.toNat / 256) = check.extractLsb' 8 8 := by
    rw [BitVec.extractLsb', Nat.shiftRight_eq_div_pow]
  rw [leBytes, leBytes, leBytes, hlow, hhigh, checkBytes]

/-- Two bytes make the number of a check exactly when they are its bytes. -/
theorem leValue_eq_toNat_iff (a b : Byte) (check : Check) :
    leValue [a, b] = check.toNat ↔ [a, b] = checkBytes check := by
  have ha := a.isLt
  have hb := b.isLt
  have hvalue : leValue [a, b] = a.toNat + 256 * b.toNat := rfl
  rw [hvalue, ← leBytes_two_toNat]
  constructor
  · intro h
    have hlow : BitVec.ofNat 8 check.toNat = a := BitVec.eq_of_toNat_eq (by rw [BitVec.toNat_ofNat]; omega)
    have hhigh : BitVec.ofNat 8 (check.toNat / 256) = b :=
      BitVec.eq_of_toNat_eq (by rw [BitVec.toNat_ofNat]; omega)
    rw [leBytes, leBytes, leBytes, hlow, hhigh]
  · intro h
    have hcheck := check.isLt
    obtain ⟨hlow, hhigh⟩ : a = BitVec.ofNat 8 check.toNat ∧ b = BitVec.ofNat 8 (check.toNat / 256) := by
      simpa [leBytes] using h
    rw [hlow, hhigh, BitVec.toNat_ofNat, BitVec.toNat_ofNat]
    omega

/-! ### The check (R200) -/

/-- A bit enters by whether it differs from the bit shifted out. -/
theorem checkBit_eq_ite (register : Check) (bit : Bool) :
    checkBit register bit =
      if register.getLsbD 15 ≠ bit then (register <<< 1) ^^^ 0x1021#16 else register <<< 1 := by
  rw [checkBit, BitVec.msb_eq_getLsbD_last]
  by_cases h : register.getLsbD 15 = bit <;> simp

/-- The check over bytes is that over their bits, most significant first. -/
theorem checkOf_eq_foldl (bytes : List Byte) :
    checkOf bytes = (bytes.flatMap fun b => [7, 6, 5, 4, 3, 2, 1, 0].map b.getLsbD).foldl checkBit 0xFFFF#16 := by
  rw [List.foldl_flatMap]
  rfl

/-! ### The frame check (R163) -/

/-- Only bits of the mask are set. -/
theorem and_not_eq_zero_iff (x mask : Byte) :
    x &&& ~~~mask = 0 ↔ ∀ bit, x.getLsbD bit = true → mask.getLsbD bit = true := by
  constructor
  · intro h bit hbit
    have hclear : (x &&& ~~~mask).getLsbD bit = false := by rw [h]; simp
    have hlt : bit < 8 := BitVec.lt_of_getLsbD hbit
    simpa [hbit, hlt] using hclear
  · intro h
    refine BitVec.eq_of_getLsbD_eq fun bit hlt => ?_
    cases hbit : x.getLsbD bit with
    | false => simp [hbit]
    | true => simp [hbit, h bit hbit]

theorem isLinkControl_iff (kind : Byte) : isLinkControl kind = true ↔ kind ∈ [0x01, 0x02, 0x03] := by
  simp [isLinkControl, helloCode, ackCode, nakCode, or_assoc]

/-- Seen on a LINK_HELLO, hold on a LINK_ACK (R163). -/
theorem getLsbD_allowedFlags (kind : Byte) (bit : Nat) :
    (allowedFlags kind).getLsbD bit = true ↔ (kind = 0x01 ∧ bit = 1) ∨ (kind = 0x02 ∧ bit = 2) := by
  have hseen : seenFlag = BitVec.twoPow 8 1 := by decide
  have hhold : holdFlag = BitVec.twoPow 8 2 := by decide
  unfold allowedFlags helloCode ackCode
  by_cases h1 : kind = 0x01
  · simp [h1, hseen, BitVec.getLsbD_twoPow, eq_comm]
  · by_cases h2 : kind = 0x02
    · simp [h2, hhold, BitVec.getLsbD_twoPow, eq_comm]
    · rw [if_neg (by simpa using h1), if_neg (by simpa using h2)]
      simp [show ¬kind = 1#8 from h1, show ¬kind = 2#8 from h2]

/-- What a link-control frame may carry (R163). -/
def ControlFields (bytes : List Byte) : Prop :=
  field bytes 4 2 = 0 ∧ byteAt bytes 1 = 0 ∧ ∀ bit, (byteAt bytes 2).getLsbD bit = true →
    (byteAt bytes 0 = 0x01 ∧ bit = 1) ∨ (byteAt bytes 0 = 0x02 ∧ bit = 2)

theorem checkField_iff {bytes : List Byte} {payload : Nat} (hlength : bytes.length = 10 + payload) (check : Check) :
    field bytes (8 + payload) 2 = check.toNat ↔ bytes.drop (8 + payload) = checkBytes check := by
  obtain ⟨a, b, hlast⟩ : ∃ a b, bytes.drop (8 + payload) = [a, b] :=
    List.length_eq_two.1 (by rw [List.length_drop]; omega)
  rw [field, hlast]
  exact leValue_eq_toNat_iff a b check

/-- The frame check, condition by condition (R163). -/
theorem frameCheck_iff (bytes : List Byte) :
    frameCheck bytes = true ↔
      field bytes 4 2 ≤ 272 ∧ bytes.length = 10 + field bytes 4 2 ∧
      bytes.drop (8 + field bytes 4 2) = checkBytes (checkOf (bytes.take (8 + field bytes 4 2))) ∧
      (byteAt bytes 0 ∈ [0x01, 0x02, 0x03] → ControlFields bytes) := by
  have hcontrol : (!isLinkControl (byteAt bytes 0) || (field bytes 4 2 == 0 && byteAt bytes 1 == 0 &&
        (byteAt bytes 2 &&& ~~~(allowedFlags (byteAt bytes 0))) == 0)) = true ↔
      (byteAt bytes 0 ∈ [0x01, 0x02, 0x03] → ControlFields bytes) := by
    simp only [Bool.or_eq_true, Bool.not_eq_true', Bool.and_eq_true, beq_iff_eq, and_not_eq_zero_iff,
      getLsbD_allowedFlags, ← isLinkControl_iff, ControlFields, and_assoc]
    cases isLinkControl (byteAt bytes 0) <;> simp
  simp only [frameCheck, Bool.and_eq_true, hcontrol, decide_eq_true_eq, beq_iff_eq]
  constructor
  · rintro ⟨⟨⟨⟨-, hmax⟩, hlength⟩, hcheck⟩, hfields⟩
    exact ⟨hmax, hlength, (checkField_iff hlength _).1 hcheck, hfields⟩
  · rintro ⟨hmax, hlength, hcheck, hfields⟩
    exact ⟨⟨⟨⟨hlength ▸ Nat.le_add_right 10 _, hmax⟩, hlength⟩, (checkField_iff hlength _).2 hcheck⟩, hfields⟩

/-- The bytes that fail it. -/
theorem frameCheck_eq_false_iff (bytes : List Byte) :
    frameCheck bytes = false ↔
      bytes.length < 10 ∨ 272 < field bytes 4 2 ∨ bytes.length ≠ 10 + field bytes 4 2 ∨
      bytes.drop (8 + field bytes 4 2) ≠ checkBytes (checkOf (bytes.take (8 + field bytes 4 2))) ∨
      (byteAt bytes 0 ∈ [0x01, 0x02, 0x03] ∧ (field bytes 4 2 ≠ 0 ∨ byteAt bytes 1 ≠ 0 ∨
        ∃ bit, (byteAt bytes 2).getLsbD bit = true ∧ ¬(byteAt bytes 0 = 0x01 ∧ bit = 1) ∧
          ¬(byteAt bytes 0 = 0x02 ∧ bit = 2))) := by
  have hfields : ¬ControlFields bytes ↔ field bytes 4 2 ≠ 0 ∨ byteAt bytes 1 ≠ 0 ∨
      ∃ bit, (byteAt bytes 2).getLsbD bit = true ∧ ¬(byteAt bytes 0 = 0x01 ∧ bit = 1) ∧
        ¬(byteAt bytes 0 = 0x02 ∧ bit = 2) := by
    simp only [ControlFields, not_and_or, not_forall, not_or, exists_prop, ne_eq]
  have hshort : bytes.length < 10 → bytes.length ≠ 10 + field bytes 4 2 := by omega
  rw [← Bool.not_eq_true, frameCheck_iff, ← hfields]
  simp only [not_and_or, Classical.not_imp, not_le, ne_eq]
  exact ⟨.inr, fun h => h.elim (fun htooShort => .inr (.inl (hshort htooShort))) id⟩

/-! ### Lock and damaged frames (R158, R159, R163) -/

/-- Settles O5: the check bit by bit, the frame check, and the lock events in each link state. -/
theorem lockAndDamagedFrames : Obligations.LockAndDamagedFrames := by
  unfold Obligations.LockAndDamagedFrames
  intro enter
  have henter : enter = checkBit := funext fun register => funext fun bit => (checkBit_eq_ite register bit).symm
  refine ⟨fun bytes => by rw [henter, checkOf_eq_foldl], by decide +kernel, fun bytes => ?_, fun s p hrun => ?_⟩
  · intro kind payload check
    have hpayload : payload = field bytes 4 2 := (field_two bytes 4).symm
    have hcheck : [check.extractLsb' 0 8, check.extractLsb' 8 8] =
        checkBytes (checkOf (bytes.take (8 + payload))) := rfl
    rw [hcheck, hpayload]
    exact frameCheck_eq_false_iff bytes
  · have hexec := whenRunning_high hrun
    refine ⟨fun hstate => ?_, fun hstate => ?_, fun hstate => ?_, fun hstate => ?_,
      fun bytes hbad => ⟨fun hstate => ?_, fun hstate => ?_⟩⟩
    · refine (hexec _).trans ?_
      rw [hstate]
      rfl
    · refine (hexec _).trans ?_
      cases h : (s.port p).link.state with
      | offline => exact absurd h hstate
      | _ => rfl
    · refine (hexec _).trans ?_
      rcases hstate with hstate | hstate <;> rw [hstate] <;> rfl
    · refine (hexec _).trans ?_
      rw [hstate]
    · refine (hexec _).trans ?_
      rw [hbad]
      cases h : (s.port p).link.state with
      | offline => exact absurd h hstate
      | _ => rfl
    · refine (hexec _).trans ?_
      rw [hbad, hstate]
      rfl

end Sys2Proof.Machine
end

section
/-! SUPPORT. What a command is on the wire, and what the bytes of a frame spell (10.1 to 10.3, R163, R164, R200 to
R202). -/

namespace Sys2Proof.Machine

open Sys2Proof.Laws.Wire (commandOfKind)

/-! ### The bytes of a frame (10.1, 10.2) -/

/-- The header and payload of a frame, which its check covers. -/
def frameBody (kind seq flags mark byte6 byte7 : Byte) (payload : List Byte) : List Byte :=
  [kind, seq, flags, mark, BitVec.ofNat 8 (payload.length % 256), BitVec.ofNat 8 (payload.length / 256), byte6,
    byte7] ++ payload

theorem frameBytes_eq (kind seq flags mark byte6 byte7 : Byte) (payload : List Byte) :
    frameBytes kind seq flags mark byte6 byte7 payload =
      frameBody kind seq flags mark byte6 byte7 payload ++
        checkBytes (checkOf (frameBody kind seq flags mark byte6 byte7 payload)) := by
  have hlow : BitVec.ofNat 8 (payload.length % 256) = BitVec.ofNat 8 payload.length :=
    BitVec.eq_of_toNat_eq (by simp)
  rw [frameBytes, frameBody, hlow, leBytes_two_toNat]
  rfl

section
variable (kind seq flags mark byte6 byte7 : Byte) (payload : List Byte)

theorem length_frameBody : (frameBody kind seq flags mark byte6 byte7 payload).length = 8 + payload.length := by
  rw [frameBody, List.length_append]
  rfl

/-- The header bytes of a frame, by their offsets (10.2). -/
theorem byteAt_frameBytes :
    byteAt (frameBytes kind seq flags mark byte6 byte7 payload) 0 = kind ∧
    byteAt (frameBytes kind seq flags mark byte6 byte7 payload) 1 = seq ∧
    byteAt (frameBytes kind seq flags mark byte6 byte7 payload) 2 = flags ∧
    byteAt (frameBytes kind seq flags mark byte6 byte7 payload) 3 = mark ∧
    byteAt (frameBytes kind seq flags mark byte6 byte7 payload) 6 = byte6 ∧
    byteAt (frameBytes kind seq flags mark byte6 byte7 payload) 7 = byte7 :=
  ⟨rfl, rfl, rfl, rfl, rfl, rfl⟩

variable {payload} (hmax : payload.length ≤ 272)
include hmax

/-- The payload length of a frame (10.2). -/
theorem length_field_frameBytes :
    field (frameBytes kind seq flags mark byte6 byte7 payload) 4 2 = payload.length := by
  rw [frameBytes_eq, field_two]
  change (BitVec.ofNat 8 (payload.length % 256)).toNat + 256 * (BitVec.ofNat 8 (payload.length / 256)).toNat = _
  rw [BitVec.toNat_ofNat, BitVec.toNat_ofNat]
  omega

theorem payload_frameBytes :
    ((frameBytes kind seq flags mark byte6 byte7 payload).drop 8).take
      (field (frameBytes kind seq flags mark byte6 byte7 payload) 4 2) = payload := by
  rw [length_field_frameBytes kind seq flags mark byte6 byte7 hmax, frameBytes_eq]
  change (payload ++ _).take payload.length = payload
  exact List.take_left

/-- A frame passes the frame check where its kind allows its fields (R163). -/
theorem frameCheck_frameBytes
    (hcontrol : kind ∈ [0x01, 0x02, 0x03] → payload = [] ∧ seq = 0 ∧
      ∀ bit, flags.getLsbD bit = true → (kind = 0x01 ∧ bit = 1) ∨ (kind = 0x02 ∧ bit = 2)) :
    frameCheck (frameBytes kind seq flags mark byte6 byte7 payload) = true := by
  have hfield := length_field_frameBytes kind seq flags mark byte6 byte7 hmax
  have hbody := length_frameBody kind seq flags mark byte6 byte7 payload
  refine (frameCheck_iff _).2 ?_
  simp only [ControlFields, hfield, byteAt_frameBytes]
  refine ⟨hmax, ?_, ?_, fun hkind => ?_⟩
  · rw [frameBytes_eq, List.length_append, hbody]
    simp only [checkBytes, List.length_cons, List.length_nil]
    omega
  · rw [frameBytes_eq, ← hbody, List.drop_left, List.take_left]
  · obtain ⟨hempty, hrest⟩ := hcontrol hkind
    exact ⟨by rw [hempty]; rfl, hrest⟩

end

/-! ### What received bytes spell (R163, R164) -/

/-- The header fields and the payload of received bytes. -/
def frameOf (bytes : List Byte) : RequestFrame :=
  { seq := byteAt bytes 1, flags := byteAt bytes 2, mark := byteAt bytes 3, byte6 := byteAt bytes 6,
    byte7 := byteAt bytes 7, payload := (bytes.drop 8).take (field bytes 4 2) }

theorem frameOf_frameBytes (kind : Byte) {f : RequestFrame} (hmax : f.payload.length ≤ 272) :
    frameOf (frameBytes kind f.seq f.flags f.mark f.byte6 f.byte7 f.payload) = f := by
  rw [frameOf, payload_frameBytes _ _ _ _ _ _ hmax]
  rfl

/-- One flag of a flags byte (10.2). -/
theorem seen_eq (flags : Byte) : (flags &&& seenFlag == seenFlag) = flags.getLsbD 1 := by
  revert flags
  decide

theorem hold_eq (flags : Byte) : (flags &&& holdFlag == holdFlag) = flags.getLsbD 2 := by
  revert flags
  decide

section
variable {p : Port} {bytes : List Byte}

theorem commandOfWire_damaged (h : frameCheck bytes = false) : commandOfWire p bytes = .damagedFrame p bytes := by
  rw [commandOfWire, h]
  rfl

variable (h : frameCheck bytes = true)
include h

theorem commandOfWire_hello (hkind : byteAt bytes 0 = 0x01) :
    commandOfWire p bytes = .linkHello p ((byteAt bytes 2).getLsbD 1) := by
  rw [commandOfWire, if_pos h, hkind, ← seen_eq]
  rfl

theorem commandOfWire_ack (hkind : byteAt bytes 0 = 0x02) :
    commandOfWire p bytes = .linkAck p (byteAt bytes 6) ((byteAt bytes 2).getLsbD 2) := by
  rw [commandOfWire, if_pos h, hkind, ← hold_eq]
  rfl

theorem commandOfWire_nak (hkind : byteAt bytes 0 = 0x03) :
    commandOfWire p bytes = .linkNak p (byteAt bytes 6) := by
  rw [commandOfWire, if_pos h, hkind]
  rfl

/-- A good frame of any other kind goes by its code (R202). -/
theorem commandOfWire_sequenced (hkind : isLinkControl (byteAt bytes 0) = false) :
    commandOfWire p bytes = commandOfKind p (byteAt bytes 0) (frameOf bytes) := by
  obtain ⟨⟨hhello, hack⟩, hnak⟩ : ((byteAt bytes 0 == helloCode) = false ∧ (byteAt bytes 0 == ackCode) = false) ∧
      (byteAt bytes 0 == nakCode) = false := by
    simpa only [isLinkControl, Bool.or_eq_false_iff] using hkind
  rw [commandOfWire, if_pos h]
  simp only [hhello, hack, hnak, Bool.false_eq_true, if_false]
  rfl

end

/-! ### The codes of the requests (10.3) -/

theorem ofCode_code (k : RequestKind) : RequestKind.ofCode k.code = some k := by
  cases k <;> decide

theorem isLinkControl_code (k : RequestKind) : isLinkControl k.code = false := by
  cases k <;> decide

/-- A code that no request uses. -/
theorem ofCode_eq_none {code : Byte} (h : ∀ k : RequestKind, code ≠ k.code) : RequestKind.ofCode code = none :=
  List.find?_eq_none.2 fun k _ hcode => h k (eq_of_beq hcode).symm

/-- The command of a request of each kind is a sequenced frame of its code (R164). -/
theorem sequenced_requestCommand (p : Port) (f : RequestFrame) (k : RequestKind) :
    (requestCommand p f k).sequenced = some (p, k.code, f) := by
  cases k with
  | setLimit =>
    simp only [requestCommand, limitCommand]
    split <;> rfl
  | _ => rfl

/-- A sequenced frame on the wire (10.1, 10.2). -/
theorem wireOfCommand_sequenced {i : Instr} {p : Port} {code : Byte} {f : RequestFrame}
    (h : i.sequenced = some (p, code, f)) :
    wireOfCommand i = some (p, frameBytes code f.seq f.flags f.mark f.byte6 f.byte7 f.payload) := by
  cases i <;> cases h <;> rfl

/-- The row of SET_LIMIT by the value of its selector (R203; log entry 16). -/
theorem limitCommand_eq_ite (p : Port) (f : RequestFrame) :
    limitCommand p f =
      if field f.payload 0 1 = 2 then .setLimitHoldLimit p f
      else if field f.payload 0 1 = 3 then .setLimitErrorLimit p f
      else if field f.payload 0 1 = 4 then .setLimitReplayTimeout p f
      else .setLimitOfferLife p f := by
  rw [field_one, limitCommand, byteAt]
  split <;> simp_all

/-! ### Every command -/

/-- What each command is on the wire, command by command. -/
theorem wire_statement (i : Instr) : Laws.Wire.Statement i := by
  cases i with
  | deviceReset => exact Laws.Wire.deviceReset
  | resetRelease a => exact Laws.Wire.resetRelease a
  | receiverLockGained p => exact Laws.Wire.receiverLockGained p
  | receiverLockLost p => exact Laws.Wire.receiverLockLost p
  | damagedFrame p bytes => exact Laws.Wire.damagedFrame p bytes
  | linkHello p seen => exact Laws.Wire.linkHello p seen
  | linkAck p value hold => exact Laws.Wire.linkAck p value hold
  | linkNak p value => exact Laws.Wire.linkNak p value
  | unknownRequestKind p k f => exact Laws.Wire.unknownRequestKind p k f
  | openSession p f => exact Laws.Wire.openSession p f
  | closeSession p f => exact Laws.Wire.closeSession p f
  | setOrder p f => exact Laws.Wire.setOrder p f
  | read p f => exact Laws.Wire.read p f
  | write p f => exact Laws.Wire.write p f
  | fence p f => exact Laws.Wire.fence p f
  | alloc p f => exact Laws.Wire.alloc p f
  | release p f => exact Laws.Wire.release p f
  | offer p f => exact Laws.Wire.offer p f
  | accept p f => exact Laws.Wire.accept p f
  | decline p f => exact Laws.Wire.decline p f
  | withdraw p f => exact Laws.Wire.withdraw p f
  | queryPort p f => exact Laws.Wire.queryPort p f
  | queryPage p f => exact Laws.Wire.queryPage p f
  | queryPool p f => exact Laws.Wire.queryPool p f
  | queryFrame p f => exact Laws.Wire.queryFrame p f
  | claimAdmin p f => exact Laws.Wire.claimAdmin p f
  | handAdmin p f => exact Laws.Wire.handAdmin p f
  | defineRegion p f => exact Laws.Wire.defineRegion p f
  | undefineRegion p f => exact Laws.Wire.undefineRegion p f
  | onlineRegion p f => exact Laws.Wire.onlineRegion p f
  | retireRegion p f => exact Laws.Wire.retireRegion p f
  | setQuota p f => exact Laws.Wire.setQuota p f
  | setWeight p f => exact Laws.Wire.setWeight p f
  | setLimitOfferLife p f => exact Laws.Wire.setLimitOfferLife p f
  | setLimitHoldLimit p f => exact Laws.Wire.setLimitHoldLimit p f
  | setLimitErrorLimit p f => exact Laws.Wire.setLimitErrorLimit p f
  | setLimitReplayTimeout p f => exact Laws.Wire.setLimitReplayTimeout p f
  | disablePort p f => exact Laws.Wire.disablePort p f
  | enablePort p f => exact Laws.Wire.enablePort p f
  | evictPort p f => exact Laws.Wire.evictPort p f
  | grant => exact Laws.Wire.grant
  | readLinesCompletion reports => exact Laws.Wire.readLinesCompletion reports
  | writeLinesCompletion reports => exact Laws.Wire.writeLinesCompletion reports
  | zeroLinesCompletion => exact Laws.Wire.zeroLinesCompletion
  | transmitChoice p => exact Laws.Wire.transmitChoice p
  | retransmit p => exact Laws.Wire.retransmit p
  | sendLinkHello p => exact Laws.Wire.sendLinkHello p
  | sendLinkNak p => exact Laws.Wire.sendLinkNak p
  | sendLinkAck p => exact Laws.Wire.sendLinkAck p
  | helloTimerExpiry p => exact Laws.Wire.helloTimerExpiry p
  | replayTimerExpiry p => exact Laws.Wire.replayTimerExpiry p
  | holdTimerExpiry p => exact Laws.Wire.holdTimerExpiry p
  | offerExpiry n => exact Laws.Wire.offerExpiry n

/-- A sequenced frame's bytes spell it (R202). -/
theorem commandOfWire_frameBytes (p : Port) {code : Byte} {f : RequestFrame} (hkind : isLinkControl code = false)
    (hmax : f.payload.length ≤ 272) :
    commandOfWire p (frameBytes code f.seq f.flags f.mark f.byte6 f.byte7 f.payload) = commandOfKind p code f := by
  have hgood := frameCheck_frameBytes code f.seq f.flags f.mark f.byte6 f.byte7 hmax fun hcontrol => by
    rw [← isLinkControl_iff, hkind] at hcontrol
    cases hcontrol
  have hcode := (byteAt_frameBytes code f.seq f.flags f.mark f.byte6 f.byte7 f.payload).1
  rw [commandOfWire_sequenced hgood (hcode.symm ▸ hkind), hcode, frameOf_frameBytes code hmax]

/-- A link-control frame with the flag that its kind allows, or with none, passes the frame check (R163). -/
theorem frameCheck_control (kind byte6 : Byte) (set : Bool) :
    frameCheck (frameBytes kind 0 (if set then allowedFlags kind else 0) 0 byte6 0 []) = true := by
  refine frameCheck_frameBytes kind 0 _ 0 byte6 0 (Nat.zero_le _) fun _ => ⟨rfl, rfl, fun bit hbit => ?_⟩
  cases set with
  | false => simp at hbit
  | true => exact (getLsbD_allowedFlags kind bit).1 hbit

theorem commandOfWire_hello_frameBytes (p : Port) (seen : Bool) :
    commandOfWire p (frameBytes helloCode 0 (if seen then seenFlag else 0) 0 0 0 []) = .linkHello p seen := by
  obtain ⟨hkind, -, hflags, -⟩ := byteAt_frameBytes helloCode 0 (if seen then seenFlag else 0) 0 0 0 []
  have hgood : frameCheck (frameBytes helloCode 0 (if seen then seenFlag else 0) 0 0 0 []) = true :=
    frameCheck_control helloCode 0 seen
  rw [commandOfWire_hello hgood hkind, hflags]
  cases seen <;> rfl

theorem commandOfWire_ack_frameBytes (p : Port) (value : Byte) (hold : Bool) :
    commandOfWire p (frameBytes ackCode 0 (if hold then holdFlag else 0) 0 value 0 []) = .linkAck p value hold := by
  obtain ⟨hkind, -, hflags, -, hvalue, -⟩ := byteAt_frameBytes ackCode 0 (if hold then holdFlag else 0) 0 value 0 []
  have hgood : frameCheck (frameBytes ackCode 0 (if hold then holdFlag else 0) 0 value 0 []) = true :=
    frameCheck_control ackCode value hold
  rw [commandOfWire_ack hgood hkind, hflags, hvalue]
  cases hold <;> rfl

theorem commandOfWire_nak_frameBytes (p : Port) (value : Byte) :
    commandOfWire p (frameBytes nakCode 0 0 0 value 0 []) = .linkNak p value := by
  obtain ⟨hkind, -, -, -, hvalue, -⟩ := byteAt_frameBytes nakCode 0 0 0 value 0 []
  have hgood : frameCheck (frameBytes nakCode 0 0 0 value 0 []) = true := frameCheck_control nakCode value false
  rw [commandOfWire_nak hgood hkind, hvalue]

/-- What a well-formed command is on the wire spells it again. -/
theorem commandOfWire_wireOfCommand {i : Instr} {p : Port} {bytes : List Byte} (hwf : i.wf = true)
    (hwire : wireOfCommand i = some (p, bytes)) : commandOfWire p bytes = i := by
  have hstatement := wire_statement i hwf
  cases hseq : i.sequenced with
  | some frame =>
    obtain ⟨q, code, f⟩ := frame
    rw [hseq] at hstatement
    obtain ⟨hbytes, hkind, hmax, hspells⟩ := hstatement
    obtain ⟨rfl, rfl⟩ : q = p ∧ _ = bytes := by simpa [hbytes] using hwire
    rw [commandOfWire_frameBytes q hkind hmax, hspells]
  | none =>
    rw [hseq] at hstatement
    rcases hstatement with hnone | ⟨q, seen, rfl⟩ | ⟨q, value, hold, rfl⟩ | ⟨q, value, rfl⟩ | ⟨q, bad, rfl, hbad⟩
    · rw [hnone] at hwire
      cases hwire
    · cases hwire
      exact commandOfWire_hello_frameBytes p seen
    · cases hwire
      exact commandOfWire_ack_frameBytes p value hold
    · cases hwire
      exact commandOfWire_nak_frameBytes p value
    · cases hwire
      exact commandOfWire_damaged hbad

/-- Settles O60: the bytes of every frame, and what good bytes spell by their kind. -/
theorem wireBytesSpellTheirCommand : Obligations.WireBytesSpellTheirCommand := by
  unfold Obligations.WireBytesSpellTheirCommand
  intro frame named
  have hframe : ∀ kind seq flags mark byte6 byte7 payload,
      frameBytes kind seq flags mark byte6 byte7 payload = frame kind seq flags mark byte6 byte7 payload :=
    frameBytes_eq
  have hnamed : ∀ p f k, named p f k = (k.code, requestCommand p f k) := fun p f k => by
    cases k with
    | setLimit => exact congrArg (Prod.mk _) (limitCommand_eq_ite p f).symm
    | _ => rfl
  refine ⟨fun bytes offset => ⟨field_zero bytes offset, field_succ bytes offset⟩,
    fun f => hframe _ _ _ _ _ _ _, fun p => ⟨fun seen => ?_, fun value hold => ?_, fun value => ?_,
    fun f => ⟨fun code => ?_, fun k => ?_⟩⟩, fun p bytes => ?_, fun i p bytes => commandOfWire_wireOfCommand⟩
  · rw [← hframe]; rfl
  · rw [← hframe]; rfl
  · rw [← hframe]; rfl
  · rw [← hframe]; rfl
  · rw [hnamed, ← hframe]
    have hseq := sequenced_requestCommand p f k
    exact ⟨rfl, rfl, hseq, wireOfCommand_sequenced hseq⟩
  · intro byte f
    refine ⟨commandOfWire_damaged, fun hgood => ?_⟩
    have hf : f = frameOf bytes := by
      have hlength := ((frameCheck_iff bytes).1 hgood).2.1
      have hpayload : bytes.length - 10 = field bytes 4 2 := by omega
      simp only [f, hpayload]
      rfl
    simp only [hnamed, hf]
    refine ⟨commandOfWire_hello hgood, commandOfWire_ack hgood, commandOfWire_nak hgood, fun k hkind => ?_,
      fun hcontrol hother => ?_⟩
    · have hcode : byteAt bytes 0 = k.code := hkind
      rw [commandOfWire_sequenced hgood (hcode ▸ isLinkControl_code k), hcode, commandOfKind, ofCode_code]
    · have hkind : isLinkControl (byteAt bytes 0) = false := by
        rw [← Bool.not_eq_true, isLinkControl_iff]
        exact hcontrol
      have hnone : RequestKind.ofCode (byteAt bytes 0) = none := ofCode_eq_none hother
      rw [commandOfWire_sequenced hgood hkind, commandOfKind, hnone]
      rfl

end Sys2Proof.Machine
end

section
/-! SUPPORT. The queries (R32, R33, R53, R197), and the administrator check of R193. -/

namespace Sys2Proof.Machine

/-! ### The answer of an action -/

/-- An accepted request that acts at acceptance answers what its action answers, whichever way that is put. -/
theorem State.Accepts.actingAs {s : State} {p : Port} {k : RequestKind} {f : RequestFrame} (h : s.Accepts p k f)
    (hk : k ≠ .openSession) {act : State → Answer} (hact : Acted p k s (act s).state) :
    ∃ t, whenRunning s (s.requestArrives p k f fun t => t.acceptDone p k f act) = .next t ∧
      ∀ a, act s = a → s.Answers t p k f a.result a.payload ∧ OnlyQueued p a.state t := by
  obtain ⟨t, hexec, hans, hqueued⟩ := h.acting hk hact
  exact ⟨t, hexec, fun _ ha => ha ▸ ⟨hans, hqueued⟩⟩

/-- An accepted administrative request of the holder answers what its action answers, whichever way that is put. -/
theorem State.Accepts.administeringAs {s : State} {p : Port} {k : RequestKind} {f : RequestFrame}
    (h : s.Accepts p k f) (hrole : s.role = .held p) (hk : k ≠ .openSession) {act : State → Answer}
    (hact : Acted p k s (act s).state) :
    ∃ t, whenRunning s (s.requestArrives p k f fun t =>
        t.acceptDone p k f fun u => u.administrative p act) = .next t ∧
      ∀ a, act s = a → s.Answers t p k f a.result a.payload ∧ OnlyQueued p a.state t := by
  obtain ⟨t, hexec, hans, hqueued⟩ := h.administrative hrole hk hact
  exact ⟨t, hexec, fun _ ha => ha ▸ ⟨hans, hqueued⟩⟩

/-! ### Who may ask (R52, R193, R197) -/

theorem mayQuery_iff (s : State) (p q : Port) : s.mayQuery p q = true ↔ q = p ∨ s.role = .held p := by
  simp [State.mayQuery, State.isAdmin]

theorem administrative_other {s : State} {p : Port} (h : s.role ≠ .held p) (act : State → Answer) :
    s.administrative p act = .failed s .notAdmin :=
  if_neg (by simpa [State.isAdmin] using h)

/-! ### The queries -/

theorem queryPort_badPort {s : State} {p : Port} {x : List Byte} (h : 4 ≤ field x 0 1) :
    s.queryPort p x = .failed s .badValue := by
  simp only [State.queryPort, portOf_none h]

theorem queryPage_badPort {s : State} {p : Port} {x : List Byte} (h : 4 ≤ field x 0 1) :
    s.queryPage p x = .failed s .badValue := by
  simp only [State.queryPage, portOf_none h]

/-- QUERY_PORT of the port that its number names, by who asks (R193, R197). -/
theorem queryPort_eq {s : State} {p q : Port} {x : List Byte} (h : field x 0 1 = q.val) :
    s.queryPort p x =
      if s.mayQuery p q then .ok s (.portReport (s.portReport q)) else .failed s .notAdmin := by
  simp only [State.queryPort, portOf_val h]

/-- QUERY_PAGE of the port that its number names, by who asks (R52, R193). -/
theorem queryPage_eq {s : State} {p q : Port} {x : List Byte} (h : field x 0 1 = q.val) :
    s.queryPage p x =
      if s.mayQuery p q then .ok s (.pageReport (s.pageReport q (field x 1 4 / 65536)))
      else .failed s .notAdmin := by
  simp only [State.queryPage, portOf_val h]
  rfl

/-- QUERY_FRAME of the administrator, by its frame number (R33). -/
theorem queryFrame_eq {s : State} {p : Port} {x : List Byte} (hrole : s.role = .held p) :
    s.queryFrame p x =
      if field x 0 4 < 262144 then .ok s (.frameReport (s.frameReport (field x 0 4)))
      else .failed s .badValue :=
  administrative_holder hrole _

/-- With no scrub head the count of operations done is reported as 0 (R204). -/
theorem poolReport_done (s : State) :
    s.poolReport.done = if s.pool.scrub.head = none then 0 else s.pool.scrub.done := by
  cases hhead : s.pool.scrub.head <;> simp [State.poolReport, hhead]

/-- Settles O28: each query by its check, its answer the report of the state it met. -/
theorem queriesReportASnapshot : Obligations.QueriesReportASnapshot := by
  intro s p f
  refine ⟨fun haccepts => ?_, fun haccepts => ?_, fun haccepts => ?_, fun haccepts hrole => ?_⟩
  · obtain ⟨t, hexec, hans⟩ := haccepts.actingAs (by decide) (act := fun u => u.queryPort p f.payload)
      (queryPort_acted s p _)
    refine ⟨t, hexec, state_queryPort s p f.payload ▸ (hans _ rfl).2,
      fun hbad => (hans _ (queryPort_badPort hbad)).1, fun q hq hmay => ?_⟩
    exact (hans _ ((queryPort_eq hq).trans (if_pos ((mayQuery_iff s p q).2 hmay)))).1
  · obtain ⟨t, hexec, hans⟩ := haccepts.actingAs (by decide) (act := fun u => u.queryPage p f.payload)
      (queryPage_acted s p _)
    refine ⟨t, hexec, state_queryPage s p f.payload ▸ (hans _ rfl).2,
      fun hbad => (hans _ (queryPage_badPort hbad)).1, fun q hq hmay => ?_⟩
    exact (hans _ ((queryPage_eq hq).trans (if_pos ((mayQuery_iff s p q).2 hmay)))).1
  · obtain ⟨t, hexec, hans⟩ := haccepts.actingAs (by decide) (act := fun u => .ok u (.poolReport u.poolReport))
      (.refl p .queryPool s)
    obtain ⟨hanswer, hqueued⟩ := hans _ rfl
    refine ⟨t, hexec, hqueued, ?_⟩
    rw [← poolReport_done]
    exact hanswer
  · obtain ⟨t, hexec, hans⟩ := haccepts.actingAs (by decide) (act := fun u => u.queryFrame p f.payload)
      (queryFrame_acted s p _)
    refine ⟨t, hexec, state_queryFrame s p f.payload ▸ (hans _ rfl).2, fun hbad => ?_, fun hgood => ?_⟩
    · exact (hans _ ((queryFrame_eq hrole).trans (if_neg (Nat.not_lt.2 hbad)))).1
    · exact (hans _ ((queryFrame_eq hrole).trans (if_pos hgood))).1

/-! ### NOT_ADMIN (R193) -/

/-- The kinds that only the administrator may send (R193). -/
def administrativeKinds : List RequestKind :=
  [.handAdmin, .defineRegion, .undefineRegion, .onlineRegion, .retireRegion, .setQuota, .setWeight, .setLimit,
    .disablePort, .enablePort, .evictPort, .queryFrame]

/-- A request of an administrative kind asks for the role before it acts (R193). -/
theorem exec_administrative (p : Port) (f : RequestFrame) {k : RequestKind} (hk : k ∈ administrativeKinds) :
    ∃ act : State → Answer, ∀ s, exec (requestCommand p f k) s =
      whenRunning s (s.requestArrives p k f fun t =>
        t.acceptDone p k f fun u => u.administrative p act) := by
  cases k with
  | setLimit =>
    rw [requestCommand, limitCommand]
    split <;> exact ⟨_, fun _ => rfl⟩
  | handAdmin | defineRegion | undefineRegion | onlineRegion | retireRegion | setQuota | setWeight | disablePort
  | enablePort | evictPort | queryFrame => exact ⟨_, fun _ => rfl⟩
  | _ => exact absurd hk (by decide)

/-- A query of another port by a port that does not hold the role (R52, R193, R197). -/
theorem State.Accepts.deniedQuery {s : State} {p q : Port} {k : RequestKind} {f : RequestFrame}
    (h : s.Accepts p k f) (hk : k ∈ [.queryPort, .queryPage]) (hrole : s.role ≠ .held p)
    (hq : field f.payload 0 1 = q.val) (hne : q ≠ p) :
    ∃ t, exec (requestCommand p f k) s = .next t ∧ s.Answers t p k f .notAdmin none ∧
      OnlyQueued p s t := by
  have hdenied : ¬s.mayQuery p q = true := mt (mayQuery_iff s p q).1 (not_or.2 ⟨hne, hrole⟩)
  simp only [List.mem_cons, List.not_mem_nil, or_false] at hk
  rcases hk with rfl | rfl
  · exact h.acceptDone (act := fun u => u.queryPort p f.payload)
      ((queryPort_eq hq).trans (if_neg hdenied)) rfl
  · exact h.acceptDone (act := fun u => u.queryPage p f.payload)
      ((queryPage_eq hq).trans (if_neg hdenied)) rfl

/-- Settles O29: the administrator check comes before the action, and a query of another port makes it too. -/
theorem administrativeRequestsNeedTheRole : Obligations.AdministrativeRequestsNeedTheRole := by
  intro s p k f haccepts hrole hkind
  rcases hkind with hadministrative | ⟨hquery, q, hq, hne⟩
  · obtain ⟨act, hexec⟩ := exec_administrative p f hadministrative
    rw [hexec]
    exact haccepts.acceptDone (administrative_other hrole act) rfl
  · exact haccepts.deniedQuery hquery hrole hq hne

end Sys2Proof.Machine
end

section
/-! SUPPORT. The administrator role (R183, R194, R195), and SET_LIMIT (R23, R59, R145, R174, R196). -/

namespace Sys2Proof.Machine

/-! ### CLAIM_ADMIN (R194) -/

section
variable {s : State} {p q : Port}

theorem claimAdmin_vacant (h : s.role = .vacant) : s.claimAdmin p = .ok (s.giveRole p) (.holder p) := by
  simp only [State.claimAdmin, h]

theorem claimAdmin_own (h : s.role = .held p) : s.claimAdmin p = .ok s (.holder p) := by
  simp only [State.claimAdmin, h, if_true]

theorem claimAdmin_held (hq : q ≠ p) (h : s.role = .held q) : s.claimAdmin p = .failed s .adminHeld := by
  simp only [State.claimAdmin, h, if_neg hq]

theorem claimAdmin_reserved (h : s.role = .reserved q) : s.claimAdmin p = .failed s .adminHeld := by
  simp only [State.claimAdmin, h]

end

/-- Settles O30, state by state of the role. -/
theorem claimAdminTakesAVacantRole : Obligations.ClaimAdminTakesAVacantRole := by
  intro s p f haccepts
  obtain ⟨t, hexec, hans⟩ := haccepts.actingAs (by decide) (act := fun u => u.claimAdmin p)
    (claimAdmin_acted s p)
  exact ⟨t, hexec, fun hvacant => hans _ (claimAdmin_vacant hvacant), fun hown => hans _ (claimAdmin_own hown),
    fun q hne hheld => hans _ (claimAdmin_held hne hheld),
    fun q hreserved => hans _ (claimAdmin_reserved hreserved)⟩

/-! ### HAND_ADMIN (R195) -/

theorem handAdmin_badPort {s : State} {p : Port} {x : List Byte} (h : 4 ≤ field x 0 1) :
    s.handAdmin p x = .failed s .badValue := by
  simp only [State.handAdmin, portOf_none h]

/-- The checks of HAND_ADMIN on a port that its number names. -/
theorem handAdmin_eq {s : State} {p q : Port} {x : List Byte} (h : field x 0 1 = q.val) :
    s.handAdmin p x =
      if q = p then .failed s .self
      else if (s.port q).session.state = .opened then .ok (s.giveRole q) (.holder q)
      else .failed s .portClosed := by
  simp only [State.handAdmin, portOf_val h]

/-- Settles O31: HAND_ADMIN by its checks. -/
theorem handAdminPassesTheRoleOn : Obligations.HandAdminPassesTheRoleOn := by
  intro s p f haccepts hrole
  obtain ⟨t, hexec, hans⟩ := haccepts.administeringAs hrole (by decide)
    (act := fun v => v.handAdmin p f.payload) (handAdmin_acted s p _)
  refine ⟨t, hexec, fun hbad => hans _ (handAdmin_badPort hbad),
    fun hself => hans _ ((handAdmin_eq hself).trans (if_pos rfl)),
    fun q hq hne => ⟨fun hclosed => ?_, fun hopened => ?_⟩⟩
  · exact hans _ ((handAdmin_eq hq).trans ((if_neg hne).trans (if_neg hclosed)))
  · exact hans _ ((handAdmin_eq hq).trans ((if_neg hne).trans (if_pos hopened)))

/-! ### SET_LIMIT (R196) -/

/-- SET_LIMIT of the holder, for a limit whose action checks a range and then sets it: BAD_VALUE outside the range, and
otherwise the limit set and the replaced value reported. -/
theorem State.Accepts.setsLimit {s u : State} {p : Port} {f : RequestFrame} (h : s.Accepts p .setLimit f)
    (hrole : s.role = .held p) {act : State → Answer} (hacted : Acted p .setLimit s (act s).state) {limit : Limit}
    {low high value replaced : Nat}
    (hact : act s = if low ≤ value ∧ value ≤ high then .ok u (.limitSet limit value replaced)
      else .failed s .badValue) :
    ∃ t, whenRunning s (s.requestArrives p .setLimit f fun t =>
        t.acceptDone p .setLimit f fun u => u.administrative p act) = .next t ∧
      (low ≤ value ∧ value ≤ high →
        s.Answers t p .setLimit f .ok (some (.limitSet limit value replaced)) ∧ OnlyQueued p u t) ∧
      (¬(low ≤ value ∧ value ≤ high) → s.Answers t p .setLimit f .badValue none ∧ OnlyQueued p s t) := by
  obtain ⟨t, hexec, hans⟩ := h.administeringAs hrole (by decide) hacted
  exact ⟨t, hexec, fun hgood => hans _ (hact.trans (if_pos hgood)),
    fun hbad => hans _ (hact.trans (if_neg hbad))⟩

/-- The threshold of errors has a range without a lower end (R23). -/
theorem setErrorLimit_eq (s : State) (value : Nat) :
    s.setErrorLimit value =
      if 0 ≤ value ∧ value ≤ 255 then
        .ok { s with pool := { s.pool with errorThreshold := value } }
          (.limitSet .errorLimit value s.pool.errorThreshold)
      else .failed s .badValue := by
  simp only [State.setErrorLimit, Nat.zero_le, true_and]
  rfl

/-- Settles O37: each limit by its range, and the selector by the row of SET_LIMIT that it chooses. -/
theorem setLimitSetsTheSelectedLimit : Obligations.SetLimitSetsTheSelectedLimit := by
  intro s p f haccepts hrole value sets setsLife setsHold setsError setsReplay
  have hlife : setsLife (.setLimitOfferLife p f) :=
    haccepts.setsLimit hrole (act := fun v => v.setOfferLife (limitValue f.payload)) (setOfferLife_acted s p _) rfl
  have hhold : setsHold (.setLimitHoldLimit p f) :=
    haccepts.setsLimit hrole (act := fun v => v.setHoldLimit (limitValue f.payload)) (setHoldLimit_acted s p _) rfl
  have herror : setsError (.setLimitErrorLimit p f) :=
    haccepts.setsLimit hrole (act := fun v => v.setErrorLimit (limitValue f.payload)) (setErrorLimit_acted s p _)
      (setErrorLimit_eq s _)
  have hreplay : setsReplay (.setLimitReplayTimeout p f) :=
    haccepts.setsLimit hrole (act := fun v => v.setReplayTimeout (limitValue f.payload))
      (setReplayTimeout_acted s p _) rfl
  have hrow : requestCommand p f .setLimit = limitCommand p f := rfl
  refine ⟨fun h => ?_, fun h => ?_, fun h => ?_, fun h => ?_, hlife, hhold, herror, hreplay⟩
  all_goals rw [hrow, limitCommand_eq_ite, h]
  exacts [hlife, hhold, herror, hreplay]

end Sys2Proof.Machine
end

section
/-! SUPPORT. DISABLE_PORT, ENABLE_PORT and EVICT_PORT (R190, R191, R192). -/

namespace Sys2Proof.Machine

/-- PORT_STATE of another port than the administrator's is a notice raised for the administrator (R24, R182). -/
theorem raisePortState_held {s : State} {p : Port} (hrole : s.role = .held p) {q : Port} (hq : q ≠ p)
    (st : SessionState) (cause : SessionCause) :
    s.raisePortState q st cause = s.raiseNotice p (.portState q st cause) := by
  have hother : ¬s.isAdmin q = true := by simpa [State.isAdmin, hrole] using hq.symm
  rw [State.raisePortState, if_neg hother, raiseForAdmin_held hrole]

/-- The reply that reports another port reports the session state that the request left it in (R190, R192). -/
theorem portAnswer_reported {s u t : State} {p q : Port} {k : RequestKind} {f : RequestFrame} (hq : q ≠ p)
    (h : s.Answers t p k f (u.portAnswer q).result (u.portAnswer q).payload ∧
      OnlyQueued p (u.portAnswer q).state t) :
    s.Answers t p k f .ok (some (.portState q (t.port q).session.state)) ∧ OnlyQueued p u t := by
  obtain ⟨hanswer, hqueued⟩ := h
  rw [hqueued.others q hq]
  exact ⟨hanswer, hqueued⟩

/-! ### DISABLE_PORT (R190) -/

section
variable {s : State} {p q : Port}

theorem disable_inSession (h : s.inSession q = true) : s.disable q = s.startTeardown q .disabled := by
  rw [State.inSession] at h
  cases hstate : (s.port q).session.state with
  | opened | closing => simp only [State.disable, hstate]
  | closed | teardown | disabled => rw [hstate] at h; cases h

theorem disable_teardown (h : (s.port q).session.state = .teardown) :
    s.disable q = s.modSession q fun c => { c with disablePending := true } := by
  simp only [State.disable, h]

theorem disable_closed (hrole : s.role = .held p) (hq : q ≠ p) (h : (s.port q).session.state = .closed) :
    s.disable q = (s.modSession q fun c => { c with state := .disabled }).raiseNotice p
      (.portState q .disabled (.ended .disabled)) := by
  have hheld : (s.modSession q fun c => { c with state := .disabled }).role = .held p := hrole
  simp only [State.disable, h, raisePortState_held hheld hq]

theorem disable_disabled (h : (s.port q).session.state = .disabled) : s.disable q = s := by
  simp only [State.disable, h]

variable {x : List Byte}

theorem disablePort_badPort (h : 4 ≤ field x 0 1) : s.disablePort p x = .failed s .badValue := by
  simp only [State.disablePort, portOf_none h]

/-- The check of DISABLE_PORT on a port that its number names. -/
theorem disablePort_eq (h : field x 0 1 = q.val) :
    s.disablePort p x = if q = p then .failed s .self else (s.disable q).portAnswer q := by
  simp only [State.disablePort, portOf_val h]

/-! ### ENABLE_PORT (R191) -/

theorem enablePort_badPort (h : 4 ≤ field x 0 1) : s.enablePort x = .failed s .badValue := by
  simp only [State.enablePort, portOf_none h]

theorem enablePort_notDisabled (h : field x 0 1 = q.val) (hstate : (s.port q).session.state ≠ .disabled) :
    s.enablePort x = .failed s .badValue := by
  simp only [State.enablePort, portOf_val h, if_neg hstate]

/-- ENABLE_PORT of a port that is DISABLED: CLOSED again, and the administrator is told. -/
theorem enablePort_disabled (h : field x 0 1 = q.val) (hrole : s.role = .held p) (hq : q ≠ p)
    (hstate : (s.port q).session.state = .disabled) :
    s.enablePort x = .ok
      ((s.modSession q fun c => { c with state := .closed }).raiseNotice p (.portState q .closed .enabled))
      (.portState q .closed) := by
  have hheld : (s.modSession q fun c => { c with state := .closed }).role = .held p := hrole
  simp only [State.enablePort, portOf_val h, if_pos hstate, raisePortState_held hheld hq, State.portAnswer,
    session_raiseNotice, session_modSession_same]

/-! ### EVICT_PORT (R192) -/

theorem evictPort_badPort (h : 4 ≤ field x 0 1) : s.evictPort p x = .failed s .badValue := by
  simp only [State.evictPort, portOf_none h]

theorem evictPort_self (h : field x 0 1 = p.val) : s.evictPort p x = .failed s .self := by
  simp only [State.evictPort, portOf_val h, if_true]

theorem evictPort_out (h : field x 0 1 = q.val) (hq : q ≠ p) (hout : s.inSession q = false) :
    s.evictPort p x = .failed s .portClosed := by
  simp only [State.evictPort, portOf_val h, if_neg hq, hout, Bool.false_eq_true, if_false]

theorem evictPort_inSession (h : field x 0 1 = q.val) (hq : q ≠ p) (hin : s.inSession q = true) :
    s.evictPort p x = (s.startTeardown q .evicted).portAnswer q := by
  simp only [State.evictPort, portOf_val h, if_neg hq, hin, if_true]

end

section
variable {s : State} {p : Port} {f : RequestFrame} (hrole : s.role = .held p)
include hrole

/-- DISABLE_PORT of the holder: its checks, and otherwise what R190 does to the named port, whose state it reports. -/
theorem State.Accepts.disablesPort (h : s.Accepts p .disablePort f) :
    ∃ t, exec (.disablePort p f) s = .next t ∧
      (4 ≤ field f.payload 0 1 → s.Answers t p .disablePort f .badValue none ∧ OnlyQueued p s t) ∧
      (field f.payload 0 1 = p.val → s.Answers t p .disablePort f .self none ∧ OnlyQueued p s t) ∧
      ∀ q : Port, field f.payload 0 1 = q.val → q ≠ p →
        s.Answers t p .disablePort f .ok (some (.portState q (t.port q).session.state)) ∧
        OnlyQueued p (s.disable q) t := by
  obtain ⟨t, hexec, hans⟩ := h.administeringAs hrole (by decide) (act := fun v => v.disablePort p f.payload)
    (disablePort_acted s p _)
  refine ⟨t, hexec, fun hbad => hans _ (disablePort_badPort hbad),
    fun hself => hans _ ((disablePort_eq hself).trans (if_pos rfl)),
    fun q hq hne => portAnswer_reported hne (hans _ ((disablePort_eq hq).trans (if_neg hne)))⟩

/-- ENABLE_PORT of the holder; the port that is DISABLED is another one, since the holder's own is OPEN. -/
theorem State.Accepts.enablesPort (h : s.Accepts p .enablePort f) :
    ∃ t, exec (.enablePort p f) s = .next t ∧
      (4 ≤ field f.payload 0 1 → s.Answers t p .enablePort f .badValue none ∧ OnlyQueued p s t) ∧
      ∀ q : Port, field f.payload 0 1 = q.val →
        ((s.port q).session.state ≠ .disabled →
          s.Answers t p .enablePort f .badValue none ∧ OnlyQueued p s t) ∧
        ((s.port q).session.state = .disabled →
          s.Answers t p .enablePort f .ok (some (.portState q .closed)) ∧
          OnlyQueued p ((s.modSession q fun c => { c with state := .closed }).raiseNotice p
            (.portState q .closed .enabled)) t) := by
  obtain ⟨t, hexec, hans⟩ := h.administeringAs hrole (by decide) (act := fun v => v.enablePort f.payload)
    (enablePort_acted s p _)
  refine ⟨t, hexec, fun hbad => hans _ (enablePort_badPort hbad),
    fun q hq => ⟨fun hstate => hans _ (enablePort_notDisabled hq hstate), fun hstate => ?_⟩⟩
  have hopened : (s.port p).session.state = .opened := session_of_refusalOf_none h.passes
  have hne : q ≠ p := fun heq => by rw [heq, hopened] at hstate; cases hstate
  exact hans _ (enablePort_disabled hq hrole hne hstate)

/-- EVICT_PORT of the holder: its checks, and otherwise the teardown of the named port, whose state it reports. -/
theorem State.Accepts.evictsPort (h : s.Accepts p .evictPort f) :
    ∃ t, exec (.evictPort p f) s = .next t ∧
      (4 ≤ field f.payload 0 1 → s.Answers t p .evictPort f .badValue none ∧ OnlyQueued p s t) ∧
      (field f.payload 0 1 = p.val → s.Answers t p .evictPort f .self none ∧ OnlyQueued p s t) ∧
      ∀ q : Port, field f.payload 0 1 = q.val → q ≠ p →
        (s.inSession q = false →
          s.Answers t p .evictPort f .portClosed none ∧ OnlyQueued p s t) ∧
        (s.inSession q = true →
          s.Answers t p .evictPort f .ok (some (.portState q (t.port q).session.state)) ∧
          OnlyQueued p (s.startTeardown q .evicted) t) := by
  obtain ⟨t, hexec, hans⟩ := h.administeringAs hrole (by decide) (act := fun v => v.evictPort p f.payload)
    (evictPort_acted s p _)
  refine ⟨t, hexec, fun hbad => hans _ (evictPort_badPort hbad),
    fun hself => hans _ (evictPort_self hself),
    fun q hq hne => ⟨fun hout => hans _ (evictPort_out hq hne hout),
      fun hin => portAnswer_reported hne (hans _ (evictPort_inSession hq hne hin))⟩⟩

end

/-- Settles O38: each request by its checks, and DISABLE_PORT by the session state of the named port. -/
theorem disableEnableAndEvictPort : Obligations.DisableEnableAndEvictPort := by
  intro s p f hrole
  refine ⟨fun haccepts => ?_, fun haccepts => haccepts.enablesPort hrole, fun haccepts => haccepts.evictsPort hrole⟩
  obtain ⟨t, hexec, hbad, hself, hnamed⟩ := haccepts.disablesPort hrole
  refine ⟨t, hexec, hbad, hself, fun q hq hne => ?_⟩
  obtain ⟨hanswer, hqueued⟩ := hnamed q hq hne
  refine ⟨hanswer, fun hin => ?_, fun htearing => ?_, fun hclosed => ?_, fun hdisabled => ?_⟩
  · rwa [disable_inSession hin] at hqueued
  · rwa [disable_teardown htearing] at hqueued
  · rwa [disable_closed hrole hne hclosed] at hqueued
  · rwa [disable_disabled hdisabled] at hqueued

end Sys2Proof.Machine
end

section
/-! SUPPORT. OPEN (R96, R182, R183, R184, R193). -/

namespace Sys2Proof.Machine

/-! ### The state that OPEN leaves (R184) -/

/-- The session OPEN and both acceptance counters 0, with the role as it was. -/
def State.opening (s : State) (p : Port) : State :=
  (s.modSession p fun c => { c with state := .opened }).modRequests p fun r =>
    { r with nextExpedited := 0, nextOrdinary := 0 }

/-- The role after an OPEN: HELD by the port that it was RESERVED for (R193). -/
def State.roleOpened (s : State) (p : Port) : AdminRole :=
  if s.role = .reserved p then .held p else s.role

/-- The state with its role settled and ADMIN_CHANGED raised, before PORT_STATE. -/
def State.openedRole (s : State) (p : Port) : State :=
  if s.role = .reserved p then (s.opening p).giveRole p else s.opening p

theorem state_openSession (s : State) (p : Port) :
    (s.openSession p).state = (s.openedRole p).raisePortState p .opened .opened := rfl

section
variable (s : State) (p : Port)

/-- Beside the role, an OPEN that has set the session and the counters only raises notices. -/
theorem openSession_quiet : Quiet { s.opening p with role := s.roleOpened p } (s.openSession p).state := by
  rw [state_openSession]
  refine Quiet.trans ?_ (raisePortState_quiet _ p _ _)
  unfold State.openedRole State.roleOpened
  by_cases hrole : s.role = .reserved p
  · rw [if_pos hrole, if_pos hrole]
    exact raiseAdminChanged_quiet _ _
  · rw [if_neg hrole, if_neg hrole]
    exact .refl _

theorem role_openSession : (s.openSession p).state.role = s.roleOpened p :=
  (openSession_quiet s p).settles.role

theorem pool_openSession : (s.openSession p).state.pool = s.pool := by
  rw [state_openSession, pool_raisePortState]
  unfold State.openedRole
  split
  · exact pool_raiseAdminChanged _ _
  · rfl

theorem requests_openSession : ((s.openSession p).state.port p).requests =
    { (s.port p).requests with nextExpedited := 0, nextOrdinary := 0 } := by
  rw [((openSession_quiet s p).settles.port p).requests, port_withRole, State.opening, requests_modRequests_same,
    requests_modSession]

theorem session_openSession : ((s.openSession p).state.port p).session =
    { (s.port p).session with state := .opened } := by
  rw [((openSession_quiet s p).settles.port p).session, port_withRole, State.opening, session_modRequests,
    session_modSession_same]

/-- The other ports' own state stays, but for their notices. -/
theorem openSession_samePort {q : Port} (hq : q ≠ p) : SamePort (s.port q) ((s.openSession p).state.port q) := by
  have hsame := (openSession_quiet s p).settles.port q
  rwa [port_withRole, State.opening, port_modRequests_ne _ hq, port_modSession_ne _ hq] at hsame

theorem aperture_openSession (q : Port) : ((s.openSession p).state.port q).aperture = (s.port q).aperture := by
  rw [(openSession_quiet s p).aperture q, port_withRole, State.opening, aperture_modRequests, aperture_modSession]

/-- While an OPEN is done its port is in session, and the others are as they were. -/
theorem inSession_opening (q : Port) : (s.opening p).inSession q = true ↔ q = p ∨ s.inSession q = true := by
  rw [State.inSession, State.opening, session_modRequests]
  by_cases hq : q = p
  · subst hq
    simp [SessionState.inSession]
  · rw [port_modSession_ne _ hq]
    simp [hq, State.inSession]

theorem transmit_opening (q : Port) : ((s.opening p).port q).transmit = (s.port q).transmit := by
  rw [State.opening, transmit_modRequests, transmit_modSession]

/-- Whom an OPEN tells: every port in session of a role that it takes (R183), and otherwise the administrator, if that
is another port (R182). -/
theorem transmit_openSession (q : Port) :
    ((s.openSession p).state.port q).transmit =
      if s.role = .reserved p then
        if q = p ∨ s.inSession q = true then (s.port q).transmit.enterNotice (.adminChanged (some p))
        else (s.port q).transmit
      else if s.role = .held q ∧ q ≠ p ∧ s.inSession q = true then
        (s.port q).transmit.enterNotice (.portState p .opened .opened)
      else (s.port q).transmit := by
  rw [state_openSession, transmit_raisePortState]
  unfold State.openedRole
  by_cases hrole : s.role = .reserved p
  · have hown : ¬(q ≠ p ∧ ((s.opening p).giveRole p).role = .held q ∧
        ((s.opening p).giveRole p).inSession q = true) := by
      rintro ⟨hq, hheld, -⟩
      rw [State.giveRole, role_raiseAdminChanged] at hheld
      exact hq (AdminRole.held.inj hheld).symm
    rw [if_pos hrole, if_pos hrole, if_neg hown, State.giveRole, transmit_raiseAdminChanged, port_withRole,
      transmit_opening]
    exact if_congr (inSession_opening s p q) rfl rfl
  · rw [if_neg hrole, if_neg hrole, transmit_opening]
    refine if_congr ?_ rfl rfl
    have hsame : (s.opening p).role = s.role := rfl
    rw [inSession_opening, hsame]
    constructor
    · rintro ⟨hq, hheld, hin⟩
      exact ⟨hheld, hq, hin.resolve_left hq⟩
    · rintro ⟨hheld, hq, hin⟩
      exact ⟨hq, hheld, .inr hin⟩

end

/-! ### The entry of the OPEN (R87, R184) -/

/-- An OPEN that passed the checks is Ordinary (R83). -/
theorem State.Accepts.open_ordinary {s : State} {p : Port} {f : RequestFrame} (h : s.Accepts p .openSession f) :
    frameClass f = .ordinary := by
  have hclosed : (s.port p).session.state = .closed := session_of_refusalOf_none h.passes
  have hpasses := h.passes
  rw [State.refusalOf, if_pos h.wellFormed, refusalAfterDecode_eq, hclosed] at hpasses
  cases hclass : frameClass f with
  | ordinary => rfl
  | expedited => simp [State.refusalByClass, hclass, eitherClass] at hpasses

/-- The entry of an OPEN: Ordinary, number 0, DONE with the standing of its port. -/
def State.openEntry (s : State) (p : Port) (f : RequestFrame) : Entry :=
  .answered .openSession .ordinary 0 f.mark .ok
    (some (.opened p (s.roleOpened p == .held p) (s.port p).aperture.quota (s.mappedCount p)))

/-- The acceptance of an OPEN leaves what its action leaves, and that entry (R93). -/
theorem State.Accepts.acceptDone_openSession {s : State} {p : Port} {f : RequestFrame}
    (h : s.Accepts p .openSession f) :
    s.acceptDone p .openSession f (fun u => u.openSession p) =
      (s.openSession p).state.enqueue p (s.openEntry p f) := by
  have hpayload : (s.openSession p).payload =
      some (.opened p ((s.openSession p).state.isAdmin p) ((s.openSession p).state.port p).aperture.quota
        ((s.openSession p).state.mappedCount p)) := rfl
  have hnumber : ((s.openSession p).state.port p).requests.nextNumber .ordinary = 0 := by
    rw [requests_openSession]
    rfl
  have hresult : (s.openSession p).result = .ok := rfl
  rw [State.acceptDone]
  simp only [hpayload, hresult, State.newEntry, h.open_ordinary, hnumber, State.isAdmin, State.mappedCount,
    role_openSession, aperture_openSession]
  rfl

/-- A DONE entry that is alone is not presented. -/
theorem entries_present_done (r : RequestUnit) (st : SessionState) {e : Entry} (hentries : r.entries = [e])
    (he : e.state = .done) : (r.present st).entries = [e] := by
  rcases present_spec r st with hsame | ⟨older, x, younger, hsplit, hwaiting, -⟩
  · rw [hsame, hentries]
  · rw [hentries] at hsplit
    have hx : x ∈ [e] := hsplit ▸ List.mem_append_right older List.mem_cons_self
    rw [List.mem_singleton.1 hx, he] at hwaiting
    cases hwaiting

/-- Where nothing but one port's link and queue change, every port keeps its Transmit Unit, its aperture and the frames it
sent. -/
theorem OnlyQueued.transmit_aperture_sent {p : Port} {s t : State} (h : OnlyQueued p s t) (q : Port) :
    (t.port q).transmit = (s.port q).transmit ∧ (t.port q).aperture = (s.port q).aperture ∧
      (t.port q).sent = (s.port q).sent := by
  by_cases hq : q = p
  · subst hq
    exact ⟨h.transmit, h.aperture, h.sent⟩
  · rw [h.others q hq]
    exact ⟨rfl, rfl, rfl⟩

/-- Settles O18: the state that the action of OPEN leaves, and its entry in the queue. -/
theorem openStartsASession : Obligations.OpenStartsASession := by
  intro s p f haccepts
  obtain ⟨t, hexec, hqueued, hrequests⟩ := haccepts.enqueued
    (accept := fun v => v.acceptDone p .openSession f fun u => u.openSession p) haccepts.acceptDone_openSession
  have hacted := openSession_acted s p
  have hrole : t.role = s.roleOpened p := hqueued.role.trans (role_openSession s p)
  rw [requests_enqueue, requests_openSession, session_openSession] at hrequests
  have hunit : (t.port p).requests =
      ({ (s.port p).requests with
          nextExpedited := 0, nextOrdinary := 1
          entries := (s.port p).requests.entries ++ [s.openEntry p f] } : RequestUnit).present .opened := hrequests
  obtain ⟨hexpedited, hordinary, hlines, hmode, hburst, -⟩ := present_keeps
    { (s.port p).requests with
      nextExpedited := 0, nextOrdinary := 1
      entries := (s.port p).requests.entries ++ [s.openEntry p f] } .opened
  rw [← hunit] at hexpedited hordinary hlines hmode hburst
  refine ⟨t, hexec, hqueued.session.trans (session_openSession s p), hrole, ?_, hexpedited, hordinary, hmode,
    hburst, hlines, fun q => (hqueued.transmit_aperture_sent q).1.trans (transmit_openSession s p q), fun q => ?_,
    fun q hq => ?_, hqueued.pool.trans (pool_openSession s p),
    hqueued.share.trans (openSession_quiet s p).share,
    hqueued.scheduler.trans (openSession_quiet s p).settles.rest.scheduler,
    hqueued.inFlight.trans hacted.inFlight, hqueued.dram.trans hacted.dram,
    hqueued.holdLimit.trans (openSession_quiet s p).settles.rest.holdLimit,
    hqueued.replayTimeout.trans (openSession_quiet s p).settles.rest.replayTimeout,
    hqueued.now.trans hacted.now, hqueued.resetLow.trans hacted.resetLow,
    hqueued.freeIndex.trans hacted.freeIndex⟩
  · rw [hrole]
    refine ⟨hunit, ?_, fun hempty => ?_⟩
    · rw [hunit]
      exact present_youngest rfl nofun
    · rw [hunit]
      exact entries_present_done _ _ (by rw [hempty]; rfl) rfl
  · obtain ⟨-, haperture, hsent⟩ := hqueued.transmit_aperture_sent q
    exact ⟨haperture.trans (aperture_openSession s p q), hsent.trans (hacted.sent q)⟩
  · have hsame := openSession_samePort s p hq
    rw [hqueued.others q hq]
    exact ⟨hsame.link, hsame.session, hsame.requests⟩

end Sys2Proof.Machine
end

section
/-! SUPPORT. The reset pins (R193, R199). -/

namespace Sys2Proof.Machine

/-! ### The reset values -/

theorem reset_regionSlot (f : Nat) : State.reset.regionSlot f = none :=
  List.find?_eq_none.2 fun k _ => by simp [State.inRegion, State.regionStop, reset_region, Region.emptySlot]

/-- The state that a run starts from has the reset values of every block. -/
theorem reset_afterDeviceReset : AfterDeviceReset State.reset where
  links p := by rw [reset_port]; rfl
  sessions p := by rw [reset_port]; rfl
  requests p := by rw [reset_port]; rfl
  transmits p := by rw [reset_port]; rfl
  apertures p := by
    simp only [State.slotAt, State.mappedCount, reset_port]
    exact ⟨fun _ => rfl, rfl, rfl⟩
  regions k := reset_region k
  frames f := ⟨reset_frame f, reset_regionSlot f⟩
  lists := reset_lists
  scrub := rfl
  threshold := rfl
  share := rfl
  weights := reset_weight
  turn := ⟨rfl, rfl, rfl⟩
  limits := ⟨rfl, rfl⟩

/-- The reset values are those of the ports, the pool, the offers, the scheduler, the operation in flight and the limits. -/
theorem AfterDeviceReset.congr {s t : State} (h : AfterDeviceReset s) (hports : t.ports = s.ports)
    (hpool : t.pool = s.pool) (hshare : t.share = s.share) (hscheduler : t.scheduler = s.scheduler)
    (hinFlight : t.inFlight = s.inFlight) (hhold : t.holdLimit = s.holdLimit)
    (hreplay : t.replayTimeout = s.replayTimeout) : AfterDeviceReset t := by
  cases s
  cases t
  subst hports hpool hshare hscheduler hinFlight hhold hreplay
  exact ⟨h.links, h.sessions, h.requests, h.transmits, h.apertures, h.regions, h.frames, h.lists, h.scrub,
    h.threshold, h.share, h.weights, h.turn, h.limits⟩

/-! ### The reset pins (R193, R199; log entries 5 and 6) -/

/-- Every command but those of the reset pins acts while RESET# is high alone. -/
theorem exec_whenRunning {c : Instr} (hreset : c ≠ .deviceReset) (hrelease : ∀ a, c ≠ .resetRelease a) :
    ∃ next : State → State, ∀ s, exec c s = whenRunning s (next s) := by
  cases c with
  | deviceReset => exact absurd rfl hreset
  | resetRelease a => exact absurd rfl (hrelease a)
  | _ => exact ⟨_, fun _ => rfl⟩

theorem exec_resetRelease_low {s : State} (h : s.resetLow = true) (a : Port) :
    exec (.resetRelease a) s = .next { s with resetLow := false, role := .reserved a } :=
  congrArg Host.Outcome.next (if_pos h)

theorem exec_resetRelease_high {s : State} (h : s.resetLow = false) (a : Port) :
    exec (.resetRelease a) s = .next s :=
  congrArg Host.Outcome.next (if_neg (by simp [h]))

/-- Settles O3: the reset values of the state that a run starts from are those of every DEVICE_RESET. -/
theorem resetValuesAndResetPins : Obligations.ResetValuesAndResetPins := by
  refine ⟨fun s => ⟨s.deviceReset, rfl, reset_afterDeviceReset.congr rfl rfl rfl rfl rfl rfl rfl, rfl, fun _ => rfl,
    fun _ => rfl, rfl, rfl, rfl⟩, reset_afterDeviceReset, rfl, rfl, fun s => ⟨fun hlow a => exec_resetRelease_low hlow a,
    fun hhigh a => exec_resetRelease_high hhigh a, fun hlow c hreset hrelease => ?_⟩⟩
  obtain ⟨next, hexec⟩ := exec_whenRunning hreset hrelease
  rw [hexec, whenRunning_low hlow]

end Sys2Proof.Machine
end

section
/-! SUPPORT. The bytes of reply payloads and notices (10.3, 10.5, 10.6, R204, R205), and the form of request frames
(10.4, R202, R203). -/

namespace Sys2Proof.Machine

/-! ### The bytes of a number (R200) -/

theorem length_leBytes (width v : Nat) : (leBytes width v).length = width := by
  induction width generalizing v with
  | zero => rfl
  | succ width ih => rw [leBytes, List.length_cons, ih]

/-- The bytes of a number carry what its width holds of it. -/
theorem leValue_leBytes (width v : Nat) : leValue (leBytes width v) = v % 256 ^ width := by
  induction width generalizing v with
  | zero => rw [leBytes, leValue, pow_zero, Nat.mod_one]
  | succ width ih => rw [leBytes, leValue, BitVec.toNat_ofNat, ih, pow_succ' 256, Nat.mod_mul]

theorem leBytes_toNat (b : Byte) : leBytes 1 b.toNat = [b] := by
  rw [leBytes, leBytes, BitVec.ofNat_toNat, BitVec.setWidth_eq]

/-! ### Runs of fields -/

/-- The bytes of a run of fields, each given by its offset, its size and its number. -/
def fieldBytes (fields : List (Nat × Nat × Nat)) : List Byte :=
  fields.flatMap fun x => leBytes x.2.1 x.2.2

/-- From `start` on each field stands where the one before it ends, and the last ends at `stop`. -/
def Contiguous : Nat → List (Nat × Nat × Nat) → Nat → Prop
  | start, [], stop => start = stop
  | start, x :: fields, stop => x.1 = start ∧ Contiguous (start + x.2.1) fields stop

theorem fieldBytes_append (xs ys : List (Nat × Nat × Nat)) : fieldBytes (xs ++ ys) = fieldBytes xs ++ fieldBytes ys :=
  List.flatMap_append

theorem Contiguous.append {start mid stop : Nat} {xs ys : List (Nat × Nat × Nat)} (hxs : Contiguous start xs mid)
    (hys : Contiguous mid ys stop) : Contiguous start (xs ++ ys) stop := by
  induction xs generalizing start with
  | nil => exact hxs.symm ▸ hys
  | cons x xs ih => exact ⟨hxs.1, ih hxs.2⟩

/-- A field is read back from the place where its bytes stand. -/
theorem field_append_leBytes (front rest : List Byte) (size v : Nat) :
    field (front ++ (leBytes size v ++ rest)) front.length size = v % 256 ^ size := by
  rw [field, List.drop_left, List.take_left' (length_leBytes size v), leValue_leBytes]

/-- Contiguous fields that follow some bytes are laid out at their offsets. -/
theorem hasLayout_append_fieldBytes {front : List Byte} {fields : List (Nat × Nat × Nat)} {stop : Nat}
    (h : Contiguous front.length fields stop) : HasLayout (front ++ fieldBytes fields) stop fields := by
  induction fields generalizing front with
  | nil => exact ⟨by rw [fieldBytes, List.flatMap_nil, List.append_nil]; exact h, nofun⟩
  | cons x fields ih =>
    obtain ⟨hoffset, hrest⟩ := h
    have htail : HasLayout ((front ++ leBytes x.2.1 x.2.2) ++ fieldBytes fields) stop fields :=
      ih (by rwa [List.length_append, length_leBytes])
    rw [List.append_assoc] at htail
    exact ⟨htail.1, List.forall_mem_cons.2 ⟨hoffset ▸ field_append_leBytes .., htail.2⟩⟩

/-- The bytes of contiguous fields are laid out by these fields. -/
theorem HasLayout.of_contiguous {bytes : List Byte} {fields : List (Nat × Nat × Nat)} {stop : Nat}
    (hbytes : bytes = fieldBytes fields) (h : Contiguous 0 fields stop) : HasLayout bytes stop fields :=
  hbytes ▸ hasLayout_append_fieldBytes (front := []) h

/-! ### Runs of records of one size -/

section
variable {α : Type} {size : Nat} {fieldsAt : Nat → α → List (Nat × Nat × Nat)}

theorem Contiguous.records (h : ∀ start y, Contiguous start (fieldsAt start y) (start + size)) (start : Nat)
    (ys : List α) (i : Nat) :
    Contiguous (start + size * i) ((ys.zipIdx i).flatMap fun y => fieldsAt (start + size * y.2) y.1)
      (start + size * (i + ys.length)) := by
  induction ys generalizing i with
  | nil => rfl
  | cons y ys ih =>
    have hnext := ih (i + 1)
    rw [Nat.mul_succ, ← Nat.add_assoc, Nat.succ_add_eq_add_succ] at hnext
    exact (h _ y).append hnext

theorem fieldBytes_records {bytesOf : α → List Byte} (h : ∀ start y, fieldBytes (fieldsAt start y) = bytesOf y)
    (start : Nat) (ys : List α) :
    fieldBytes (ys.zipIdx.flatMap fun y => fieldsAt (start + size * y.2) y.1) = ys.flatMap bytesOf := by
  calc fieldBytes (ys.zipIdx.flatMap fun y => fieldsAt (start + size * y.2) y.1)
      = ys.zipIdx.flatMap fun y => bytesOf y.1 := by
        rw [fieldBytes, List.flatMap_assoc]
        exact congrArg ys.zipIdx.flatMap (funext fun y => h _ y.1)
    _ = (ys.zipIdx.map Prod.fst).flatMap bytesOf := (List.flatMap_map Prod.fst bytesOf _).symm
    _ = ys.flatMap bytesOf := by rw [List.zipIdx_map_fst]

/-- A payload of head fields and a list of records, each of `size` bytes (10.5). -/
theorem HasLayout.of_records {bytesOf : α → List Byte} {head : List (Nat × Nat × Nat)} {start : Nat}
    (hhead : Contiguous 0 head start) (hfields : ∀ start y, Contiguous start (fieldsAt start y) (start + size))
    (hbytes : ∀ start y, fieldBytes (fieldsAt start y) = bytesOf y) (ys : List α) :
    HasLayout (fieldBytes head ++ ys.flatMap bytesOf) (start + size * ys.length)
      (head ++ ys.zipIdx.flatMap fun y => fieldsAt (start + size * y.2) y.1) := by
  refine .of_contiguous ?_ (hhead.append ?_)
  · rw [fieldBytes_append, fieldBytes_records hbytes]
  · have hrecords := Contiguous.records hfields start ys 0
    rwa [Nat.zero_add] at hrecords

end

/-! ### The payloads with records, and the report of a port (10.5) -/

theorem hasLayout_allocated (page count : Nat) (frames : List Nat) :
    HasLayout (ReplyPayload.allocated page count frames).bytes (3 + 4 * frames.length)
      ((0, 2, page) :: (2, 1, count) :: frames.zipIdx.map fun y => (3 + 4 * y.2, 4, y.1)) := by
  rw [List.map_eq_flatMap]
  exact .of_records (head := [(0, 2, page), (2, 1, count)]) (fieldsAt := fun start f => [(start, 4, f)])
    (by simp [Contiguous]) (fun _ _ => by simp [Contiguous]) (fun _ _ => rfl) frames

/-- The fields of a region record that stands at `start` in a QUERY_POOL reply (10.5). -/
def RegionReport.fieldsAt (start : Nat) (r : RegionReport) : List (Nat × Nat × Nat) :=
  [(start, 1, r.slot.val), (start + 1, 1, r.state.code), (start + 2, 4, r.start), (start + 6, 4, r.stop),
    (start + 10, 1, r.uncorrectable), (start + 11, 2, r.corrected), (start + 13, 4, r.retired),
    (start + 17, 1, drainCauseCode r.cause)]

theorem hasLayout_poolReport (r : PoolReport) :
    HasLayout r.bytes (15 + 18 * r.regions.length)
      ([(0, 4, r.freeLength), (4, 4, r.scrubLength), (8, 4, frameCode r.head), (12, 1, r.done),
          (13, 1, r.threshold), (14, 1, r.regions.length)] ++
        r.regions.zipIdx.flatMap fun y => y.1.fieldsAt (15 + 18 * y.2)) :=
  .of_records (size := 18) (fieldsAt := RegionReport.fieldsAt)
    (head := [(0, 4, r.freeLength), (4, 4, r.scrubLength), (8, 4, frameCode r.head), (12, 1, r.done),
      (13, 1, r.threshold), (14, 1, r.regions.length)])
    (bytesOf := RegionReport.bytes) (by simp [Contiguous])
    (fun _ _ => by simp [Contiguous, RegionReport.fieldsAt]) (fun _ _ => rfl) r.regions

/-- The cases of the cause and the role come first, since both sides read them by a match of their own. -/
theorem hasLayout_portReport (r : PortReport) :
    HasLayout r.bytes 25
      [(0, 1, r.port.val), (1, 1, r.session.code), (2, 1, match r.cause with | some c => c.code | none => 0),
        (3, 1, boolCode r.disablePending), (4, 1, r.role.code),
        (5, 1, match r.role with | .vacant => 255 | .reserved q => q.val | .held q => q.val), (6, 1, r.link.code),
        (7, 2, r.checkErrors), (9, 2, r.quota), (11, 2, r.mapped), (13, 1, r.expeditedEntries),
        (14, 1, r.ordinaryEntries), (15, 1, r.freeLines), (16, 1, r.mode.code), (17, 1, r.burstLimit),
        (18, 1, r.offersMade), (19, 1, r.offersReceived), (20, 2, r.lifetime), (22, 2, r.holdLimit),
        (24, 1, r.replayTimeout)] := by
  refine .of_contiguous ?_ (by simp [Contiguous])
  unfold PortReport.bytes
  cases r.cause <;> cases r.role <;>
    simp only [fieldBytes, List.flatMap_cons, List.flatMap_nil, List.append_assoc, List.append_nil]

/-! ### Codes (10.3) -/

theorem resultCode_listed (r : ResultCode) :
    [ResultCode.ok, .faultUnmapped, .faultRights, .bounds, .dataError, .pageInUse, .notMapped, .quota, .quotaInUse,
      .noFrames, .noOffer, .offersFull, .offerPending, .alreadyMapped, .self, .rights, .portClosed, .notAdmin,
      .adminHeld, .regionState, .badValue][r.code.toNat]? = some r := by
  cases r <;> rfl

theorem refusalCode_listed (r : RefusalReason) :
    r.code ≠ 0 ∧ [RefusalReason.notOpen, .alreadyOpen, .notReady, .portDisabled, .closing, .classRefused, .windowFull,
      .dataFull, .malformed][r.code.toNat - 1]? = some r := by
  cases r <;> decide

/-! ### Where the payload of a reply comes from (R140) -/

section
variable {e : Entry}

theorem replyBytes_readData {data : List Byte} (h : e.readData = some data) : e.replyBytes = data := by
  rw [Entry.replyBytes, h]

theorem replyBytes_payload {x : ReplyPayload} (hdata : e.readData = none) (h : e.payload = some x) :
    e.replyBytes = x.bytes := by
  rw [Entry.replyBytes, hdata, h]

theorem replyBytes_empty (hdata : e.readData = none) (h : e.payload = none) : e.replyBytes = [] := by
  rw [Entry.replyBytes, hdata, h]

end

/-- Settles O4: every payload is the bytes of contiguous fields, and is read back field by field. -/
theorem repliesAndNoticesLaidOut : Obligations.RepliesAndNoticesLaidOut := by
  refine ⟨fun x => ?_, fun n => ?_, fun _ _ => replyBytes_readData, fun _ _ => replyBytes_payload,
    fun _ => replyBytes_empty, resultCode_listed, refusalCode_listed⟩
  · cases x with
    | allocated page count frames => exact hasLayout_allocated page count frames
    | poolReport r => exact hasLayout_poolReport r
    | offered i | accepted i | offerNumber i =>
      refine .of_contiguous ?_ (by simp [Contiguous])
      rw [ReplyPayload.bytes, ← leBytes_toNat i]
      rfl
    | portReport r => exact hasLayout_portReport r
    | pageReport r =>
      obtain ⟨port, page, mapped, quota, empty | ⟨mapping, record⟩⟩ := r
      · exact .of_contiguous rfl (by simp [Contiguous])
      · exact .of_contiguous rfl (by simp [Contiguous])
    | _ => exact .of_contiguous rfl (by simp [Contiguous])
  · cases n with
    | offerReceived i | offerTaken i | offerDeclined i | offerWithdrawn i | offerExpired i =>
      refine ⟨rfl, .of_contiguous ?_ (by simp [Contiguous])⟩
      rw [Notice.bytes, ← leBytes_toNat i]
      rfl
    | _ => exact ⟨rfl, .of_contiguous rfl (by simp [Contiguous])⟩

/-! ### The form of a request frame (R202, R203) -/

/-- No flag but the class flag (R202). -/
theorem onlyClassFlag_iff (flags : Byte) : onlyClassFlag flags = true ↔ flags = 0 ∨ flags = 1 := by
  revert flags
  decide

theorem wellFormedRequest_iff (k : RequestKind) (f : RequestFrame) :
    wellFormedRequest k f = true ↔
      (f.flags = 0 ∨ f.flags = 1) ∧ f.byte6 = 0 ∧ f.byte7 = 0 ∧ f.payload.length = requiredLength k f.payload ∧
        reservedValue k f.payload = false := by
  rw [wellFormedRequest]
  simp only [Bool.and_eq_true, beq_iff_eq, Bool.not_eq_true', onlyClassFlag_iff, and_assoc]

theorem isNone_rightsOf_iff (n : Nat) : (rightsOf n).isNone = false ↔ n ≤ 1 := by
  rw [rightsOf]
  split_ifs <;> simp <;> omega

theorem isNone_modeOf_iff (n : Nat) : (modeOf n).isNone = false ↔ n ≤ 1 := by
  rw [modeOf]
  split_ifs <;> simp <;> omega

theorem addressReserved_iff (address : Nat) : addressReserved address = false ↔ address < 2 ^ 28 := by
  rw [addressReserved, decide_eq_false_iff_not, Nat.not_le]

/-- A number of a field that has to be from 1 to a maximum (R203). -/
theorem outsideRange_iff (n max : Nat) : (n == 0 || decide (max < n)) = false ↔ 1 ≤ n ∧ n ≤ max := by
  simp [Nat.one_le_iff_ne_zero]

/-- Settles O16: check 1 part by part, the reserved values by the kinds that have any. -/
theorem wellFormedRequests : Obligations.WellFormedRequests := by
  intro k f
  rw [wellFormedRequest_iff]
  refine and_congr_right' (and_congr_right' (and_congr_right' (and_congr ?_ ?_)))
  · cases k with
    | _ => exact Iff.rfl
  · cases k with
    | read | write =>
      rw [reservedValue, Bool.or_assoc, Bool.or_eq_false_iff, addressReserved_iff, outsideRange_iff]
      rfl
    | queryPage => exact addressReserved_iff _
    | alloc | release => exact outsideRange_iff _ 64
    | offer => exact isNone_rightsOf_iff _
    | setOrder => exact isNone_modeOf_iff _
    | setLimit => exact outsideRange_iff _ 4
    | _ => exact iff_true_intro rfl

end Sys2Proof.Machine
end

section
/-! SUPPORT. What lies outside the part: every command answers, keeps the waiting commands and the fitted DRAM, and does not
take the time back (log entries 3, 4, 5, 7 and 24). -/

namespace Sys2Proof.Machine

/-! ### What is outside the part -/

/-- The commands that wait and the fitted DRAM are as before, and the clock stands where it stood or later. -/
structure OutsideKept (s t : State) : Prop where
  pending : t.pending = s.pending
  fitted : t.dram.fitted = s.dram.fitted
  now : s.now ≤ t.now

theorem OutsideKept.refl (s : State) : OutsideKept s s := ⟨rfl, rfl, Nat.le_refl _⟩

theorem OutsideKept.trans {s t u : State} (h : OutsideKept s t) (g : OutsideKept t u) : OutsideKept s u :=
  ⟨g.pending.trans h.pending, g.fitted.trans h.fitted, Nat.le_trans h.now g.now⟩

/-- A change of the ports, the pool and the offers. -/
theorem SameRest.outsideKept {s t : State} (h : SameRest s t) : OutsideKept s t :=
  ⟨h.pending, congrArg Dram.fitted h.dram, h.now.ge⟩

theorem Quiet.outsideKept {s t : State} (h : Quiet s t) : OutsideKept s t := h.settles.rest.outsideKept

theorem FromHost.outsideKept {p : Port} {s t : State} (h : FromHost p s t) : OutsideKept s t :=
  ⟨h.pending, congrArg Dram.fitted h.dram, h.now.ge⟩

theorem modPort_outsideKept (s : State) (p : Port) (f : PortState → PortState) : OutsideKept s (s.modPort p f) :=
  ⟨rfl, rfl, Nat.le_refl _⟩

theorem modLink_outsideKept (s : State) (p : Port) (f : LinkUnit → LinkUnit) : OutsideKept s (s.modLink p f) :=
  modPort_outsideKept s p _

theorem modTransmit_outsideKept (s : State) (p : Port) (f : TransmitUnit → TransmitUnit) :
    OutsideKept s (s.modTransmit p f) :=
  modPort_outsideKept s p _

/-- The clock is set forward only (log entry 4). -/
theorem reachTime_outsideKept (s : State) (time : Nat) : OutsideKept s (s.reachTime time) :=
  ⟨rfl, rfl, Nat.le_max_left _ _⟩

/-! ### Links and frames sent -/

theorem loseLink_outsideKept (s : State) (p : Port) (state : LinkState) : OutsideKept s (s.loseLink p state) := by
  have hlost : OutsideKept s (s.lost p state) := (modLink_outsideKept s p _).trans (modTransmit_outsideKept _ p _)
  cases hsession : s.inSession p with
  | false =>
    rw [loseLink_out s p state hsession]
    exact hlost
  | true =>
    rw [loseLink_in s p state hsession]
    exact hlost.trans (startTeardown_torn _ p _).rest.outsideKept

theorem ackInUp_outsideKept (s : State) (p : Port) (value : Byte) (hold : Bool) :
    OutsideKept s (s.ackInUp p value hold) :=
  (modLink_outsideKept s p _).trans (modTransmit_outsideKept _ p _)

theorem nakInUp_outsideKept (s : State) (p : Port) (value : Byte) : OutsideKept s (s.nakInUp p value) :=
  modLink_outsideKept s p _

/-- A change of the Link Unit with which a frame is sent. -/
theorem send_modLink_outsideKept (s : State) (p : Port) (g : LinkUnit → LinkUnit) (f : LinkFrame) :
    OutsideKept s ((s.modLink p g).send p f) :=
  (modLink_outsideKept s p g).trans (modPort_outsideKept _ p _)

theorem afterReply_outsideKept (s : State) (p : Port) (x : Source) : OutsideKept s (s.afterReply p x) := by
  unfold State.afterReply
  split
  · split
    · exact (startTeardown_torn s p _).rest.outsideKept
    · exact .refl s
  · exact .refl s
  · exact .refl s

theorem transmitNew_outsideKept (s : State) (p : Port) : OutsideKept s (s.transmitNew p) := by
  unfold State.transmitNew
  split
  · split
    · exact ((modPort_outsideKept s p _).trans (send_modLink_outsideKept _ p _ _)).trans (afterReply_outsideKept _ p _)
    · exact .refl s
  · exact .refl s

/-! ### The memory channel -/

/-- A grant in the scheduler's record, before its participant is told (R124). -/
theorem granting_outsideKept (s : State) (x : Participant) (o : Operation) (lines : Nat) :
    OutsideKept s (s.granting x o lines) :=
  ⟨rfl, rfl, Nat.le_refl _⟩

theorem tellGranted_outsideKept (s : State) (x : Participant) : OutsideKept s (s.tellGranted x) := by
  unfold State.tellGranted
  split
  · exact (modPort_outsideKept s _ _).trans (present_rest _ _).outsideKept
  · exact (modPool_quiet s _).outsideKept

theorem takeGrant_outsideKept (s : State) : OutsideKept s s.takeGrant := by
  unfold State.takeGrant
  split
  · split
    · rw [grantTo_eq]
      exact (granting_outsideKept s _ _ _).trans (tellGranted_outsideKept _ _)
    · exact .refl s
  · exact .refl s
  · exact .refl s

theorem requestCompleted_outsideKept (s : State) (p : Port) (g : Entry → Entry) :
    OutsideKept s (s.requestCompleted p g) :=
  (requestCompleted_onlyAt s p g).rest.outsideKept

theorem readCompleted_outsideKept (s : State) (p : Port) (o : Operation) (reports : List LineReport) :
    OutsideKept s (s.readCompleted p o reports) := by
  have hread : OutsideKept s { s with
      inFlight := none
      dram := s.dram.afterRead (dramLine o.frame o.firstLine) o.lineCount reports
      freeIndex := s.freeIndex + 1 } := ⟨rfl, Dram.fitted_keepLines _ _ _, Nat.le_refl _⟩
  rw [readCompleted_eq]
  exact (hread.trans (readAccounted_quiet s o reports).outsideKept).trans (requestCompleted_outsideKept _ p _)

theorem fitted_dramWritten (s : State) (p : Port) (o : Operation) (reports : List LineReport) :
    (s.dramWritten p o reports).fitted = s.dram.fitted := by
  unfold State.dramWritten
  split
  · split
    · exact Dram.fitted_writeLines _ _ _ _ _ _
    · rfl
    · rfl
  · rfl

theorem writeCompleted_outsideKept (s : State) (p : Port) (o : Operation) (reports : List LineReport) :
    OutsideKept s (s.writeCompleted p o reports) := by
  have hwritten : OutsideKept s { s with inFlight := none, dram := s.dramWritten p o reports } :=
    ⟨rfl, fitted_dramWritten s p o reports, Nat.le_refl _⟩
  rw [writeCompleted_eq]
  exact ((hwritten.trans (writeUnpinned_quiet s o _).outsideKept).trans (modPort_outsideKept _ p _)).trans
    (requestCompleted_outsideKept _ p _)

theorem zeroCompleted_outsideKept (s : State) (o : Operation) : OutsideKept s (s.zeroCompleted o) :=
  ⟨rfl, Dram.fitted_zeroLines _ _ _, Nat.le_refl _⟩

/-! ### The timers -/

theorem replayExpired_outsideKept (s : State) (p : Port) : OutsideKept s (s.replayExpired p) := by
  unfold State.replayExpired
  split
  · exact modLink_outsideKept s p _
  · exact loseLink_outsideKept s p _

theorem holdExpired_outsideKept (s : State) (p : Port) : OutsideKept s (s.holdExpired p) := by
  unfold State.holdExpired
  simp only
  split
  · exact ((modTransmit_outsideKept s p _).trans (modTransmit_outsideKept _ p _)).trans
      (raiseNotice_quiet _ p _).outsideKept
  · exact modTransmit_outsideKept s p _

/-! ### Every command -/

/-- The command answers a next state from every state, and keeps what is outside the part. -/
def AnswersKeepingOutside (c : Instr) : Prop := ∀ s, ∃ t, exec c s = .next t ∧ OutsideKept s t

/-- A command that acts while RESET# is high answers the state itself while it is low. -/
theorem AnswersKeepingOutside.of_running {c : Instr} {next : State → State}
    (hexec : ∀ s, exec c s = whenRunning s (next s)) (hnext : ∀ s, OutsideKept s (next s)) :
    AnswersKeepingOutside c := by
  intro s
  refine ⟨_, hexec s, ?_⟩
  split
  · exact .refl s
  · exact hnext s

/-- A sequenced frame is a frame from the host. -/
theorem answersKeepingOutside_of_sequenced {c : Instr} {p : Port} {code : Byte} {f : RequestFrame}
    (hseq : c.sequenced = some (p, code, f)) : AnswersKeepingOutside c := by
  intro s
  obtain ⟨offer, hexec⟩ := exec_sequenced hseq
  exact ⟨_, hexec s, (fromHost_of_sequenced hseq (hexec s)).outsideKept⟩

/-- The other commands: of the reset pins, the links, the memory channel, the transmitters and the timers. -/
theorem answersKeepingOutside_of_not_sequenced {c : Instr} (hseq : c.sequenced = none) :
    AnswersKeepingOutside c := by
  cases c with
  | deviceReset => exact fun s => ⟨s.deviceReset, rfl, rfl, rfl, Nat.le_refl _⟩
  | resetRelease a =>
    refine fun s => ⟨_, rfl, ?_⟩
    split
    · exact ⟨rfl, rfl, Nat.le_refl _⟩
    · exact .refl s
  | receiverLockGained p =>
    refine .of_running (fun _ => rfl) fun s => ?_
    split
    · exact modLink_outsideKept s p _
    all_goals exact .refl s
  | receiverLockLost p =>
    refine .of_running (fun _ => rfl) fun s => ?_
    split
    · exact loseLink_outsideKept s p _
    · exact modLink_outsideKept s p _
    · exact modLink_outsideKept s p _
    · exact .refl s
  | damagedFrame p bytes =>
    refine .of_running (fun _ => rfl) fun s => ?_
    split
    · exact .refl s
    · split
      · exact .refl s
      all_goals exact modLink_outsideKept s p _
  | linkHello p seen =>
    refine .of_running (fun _ => rfl) fun s => ?_
    split
    · exact .refl s
    · exact modLink_outsideKept s p _
    · split
      · exact modLink_outsideKept s p _
      · exact .refl s
    · split
      · exact modLink_outsideKept s p _
      · exact loseLink_outsideKept s p _
  | linkAck p value hold =>
    refine .of_running (fun _ => rfl) fun s => ?_
    split
    · exact .refl s
    · exact .refl s
    · exact (modLink_outsideKept s p _).trans (ackInUp_outsideKept _ p value hold)
    · exact ackInUp_outsideKept s p value hold
  | linkNak p value =>
    refine .of_running (fun _ => rfl) fun s => ?_
    split
    · exact .refl s
    · exact .refl s
    · exact (modLink_outsideKept s p _).trans (nakInUp_outsideKept _ p value)
    · exact nakInUp_outsideKept s p value
  | grant => exact .of_running (fun _ => rfl) takeGrant_outsideKept
  | readLinesCompletion reports =>
    refine .of_running (fun _ => rfl) fun s => ?_
    split
    · split
      · exact readCompleted_outsideKept s _ _ _
      all_goals exact .refl s
    · exact .refl s
  | writeLinesCompletion reports =>
    refine .of_running (fun _ => rfl) fun s => ?_
    split
    · split
      · exact writeCompleted_outsideKept s _ _ _
      all_goals exact .refl s
    · exact .refl s
  | zeroLinesCompletion =>
    refine .of_running (fun _ => rfl) fun s => ?_
    split
    · split
      · exact zeroCompleted_outsideKept s _
      all_goals exact .refl s
    · exact .refl s
  | transmitChoice p => exact .of_running (fun _ => rfl) (transmitNew_outsideKept · p)
  | retransmit p =>
    refine .of_running (fun _ => rfl) fun s => ?_
    split
    · split
      · exact send_modLink_outsideKept s p _ _
      · exact .refl s
    · exact .refl s
  | sendLinkHello p =>
    refine .of_running (fun _ => rfl) fun s => ?_
    simp only
    split
    · exact send_modLink_outsideKept s p _ _
    · exact .refl s
  | sendLinkNak p =>
    refine .of_running (fun _ => rfl) fun s => ?_
    split
    · exact send_modLink_outsideKept s p _ _
    all_goals exact .refl s
  | sendLinkAck p =>
    refine .of_running (fun _ => rfl) fun s => ?_
    split
    · exact send_modLink_outsideKept s p _ _
    all_goals exact .refl s
  | helloTimerExpiry p =>
    refine .of_running (fun _ => rfl) fun s => ?_
    split
    · exact (reachTime_outsideKept s _).trans (modLink_outsideKept _ p _)
    · exact .refl s
  | replayTimerExpiry p =>
    refine .of_running (fun _ => rfl) fun s => ?_
    split
    · exact (reachTime_outsideKept s _).trans (replayExpired_outsideKept _ p)
    · exact .refl s
  | holdTimerExpiry p =>
    refine .of_running (fun _ => rfl) fun s => ?_
    split
    · exact (reachTime_outsideKept s _).trans (holdExpired_outsideKept _ p)
    · exact .refl s
  | offerExpiry n =>
    refine .of_running (fun _ => rfl) fun s => ?_
    split
    · exact (reachTime_outsideKept s _).trans (((removeOffer_settles _ n).trans
        (raiseNotice_quiet _ _ _).settles).trans (raiseNotice_quiet _ _ _).settles).rest.outsideKept
    · exact .refl s
  | _ => cases hseq

/-- Settles O2: a sequenced frame leaves memory and the time as they are; of the other commands the completions keep the
fitted spans, and the timers alone move the clock. -/
theorem everyCommandAnswers : Obligations.EveryCommandAnswers := by
  intro c s
  have hanswers : AnswersKeepingOutside c := by
    cases hseq : c.sequenced with
    | none => exact answersKeepingOutside_of_not_sequenced hseq
    | some frame => exact answersKeepingOutside_of_sequenced hseq
  obtain ⟨t, hexec, hkept⟩ := hanswers s
  exact ⟨t, hexec, hkept.pending, hkept.fitted, hkept.now⟩

end Sys2Proof.Machine
end
